-- ==== Sys2Proof/Word.lean ====
section
/-! DEFINITION. The words, addresses, counts and indices of the TB-216 (spec/00_scope.md 0.5 to 0.7). -/

namespace Sys2Proof

/-- A word of the lanes and of the segment buses: 32 bits (0.6, "Word"). -/
abbrev Word := BitVec 32

/-- A byte address on a segment: 28 bits, 256 MiB (0.5). -/
abbrev SegAddr := BitVec 28

/-- A queue sequence number, 0..65535, wrapping (R69). -/
abbrev Seq := BitVec 16

/-- A lane epoch, 0..255, wrapping (R186). -/
abbrev Epoch := BitVec 8

/-- A timebase value in µs, 32 bits, wrapping (R178). -/
abbrev Time := BitVec 32

/-- A rack lane, 0..14 (R186). -/
abbrev LaneId := Fin 15

/-- An index into a bank of the window table, 0..23 (R3). -/
abbrev WindowIndex := Fin 24

/-- An index into the Deferred Transaction Table, 0..15 (R39). -/
abbrev EntryIndex := Fin 16

/-- A stream slot, 0..3 (R106). -/
abbrev SlotIndex := Fin 4

end Sys2Proof
end

