-- ==== Sys2Proof/Syntax.lean ====
section
/-! DEFINITION. The commands of the TB-216: one constructor per row of spec/opcode_table.json, with what the event has
to be told from outside the part. The table lists no operand fields; the operands follow the rules named at each row. -/

namespace Sys2Proof

/-- The two segment buses (0.6). -/
inductive Segment where
  | a
  | b
deriving DecidableEq, Repr

/-- A parcel as the lane layer delivers it: a sequence of 32-bit words (10.8), its first word and the rest. A request
parcel has a second header word before its payload (R195); `rest` holds that word and the payload. -/
structure Parcel where
  head : Word
  rest : List Word
deriving DecidableEq, Repr

/-- What a target may signal on the ending code lines (R130 and the pin note of 10.9). -/
inductive TargetEnding where
  | done
  | stop
  | backoff
  | fault
deriving DecidableEq, Repr

/-- The commands: the part's steps, each whole and indivisible (spec/95_what_each_step_holds.md). A row that takes a
parcel has no operand: the intake arbiter of R17 chooses the lane, and the parcel's words carry the rest. -/
inductive Instr where
  /-- POWER_ON_RESET (R186): release of the RESET input. -/
  | powerOnReset
  /-- TIMEBASE_ADVANCE (R178): the next µs. -/
  | timebaseAdvance
  /-- ARRIVAL (R189): the lane layer reports the lane's change from DOWN to UP. -/
  | arrival (lane : LaneId)
  /-- DEPARTURE (R191): the lane layer reports the lane's change from UP to DOWN. -/
  | departure (lane : LaneId)
  /-- PARCEL_DELIVERY (R187): a parcel from the partner reaches the lane. -/
  | parcelDelivery (lane : LaneId) (parcel : Parcel)
  /-- PARCEL_SEND (R188): the partner can accept the front parcel of the lane's transmit buffer. -/
  | parcelSend (lane : LaneId)
  /-- MALFORMED_PARCEL (R24): the intake takes a parcel that breaks a form rule. -/
  | malformedParcel
  /-- READ (R23): the intake takes a READ parcel. -/
  | read
  /-- WRITE (R23): the intake takes a WRITE parcel. -/
  | write
  /-- FENCE (R94): the intake takes a FENCE parcel. -/
  | fence
  /-- CLAIM (R168): the intake takes a MGMT parcel with operation CLAIM; so for the fifteen rows that follow. -/
  | claim
  /-- RELEASE (R169). -/
  | release
  /-- OPEN (R172). -/
  | openGate
  /-- CLOSE (R172). -/
  | closeGate
  /-- STAGE_WINDOW (R5). -/
  | stageWindow
  /-- READ_WINDOW (R7). -/
  | readWindow
  /-- COMMIT (R11). -/
  | commit
  /-- SET_PARAMETER (R175). -/
  | setParameter
  /-- GET_PARAMETER (R176). -/
  | getParameter
  /-- GET_STATUS (R180). -/
  | getStatus
  /-- LOG_TAKE (R157). -/
  | logTake
  /-- SEGMENT_ENABLE (R147). -/
  | segmentEnable
  /-- SEGMENT_DISABLE (R146). -/
  | segmentDisable
  /-- DRAIN (R100). -/
  | drain
  /-- PURGE_LANE (R193). -/
  | purgeLane
  /-- BROKER_RESET (R182). -/
  | brokerReset
  /-- GRANT (R135): the segment's engine takes a grant. -/
  | grant (segment : Segment)
  /-- TARGET_CLAIM (R128): a target answers the select. -/
  | targetClaim (segment : Segment)
  /-- WORD_PASS (R129): one data word passes. In a READ cycle `data` and `parity` are the data lines and the four byte
  parity lines as the target drives them, parity bit b for byte b. In a WRITE cycle the engine drives them and the
  operands are not read. -/
  | wordPass (segment : Segment) (data : Word) (parity : BitVec 4)
  /-- CYCLE_END (R138): the engine takes the target's ending. -/
  | cycleEnd (segment : Segment) (ending : TargetEnding)
  /-- CLAIM_LIMIT_EXPIRY (R128): no target has claimed within the claim limit. -/
  | claimLimitExpiry (segment : Segment)
  /-- HOLD_LIMIT_EXPIRY (R129): a hold exceeds the hold limit. -/
  | holdLimitExpiry (segment : Segment)
  /-- DISCARD_EXPIRY (R57): the timebase reaches the expiry time of a READY entry. -/
  | discardExpiry (entry : EntryIndex)
  /-- CLOSE_TIME (R78): the timebase reaches the close time of the segment's open tail. -/
  | closeTime (segment : Segment)
  /-- IDLE_EXPIRY (R120): the timebase reaches the idle expiry of a stream slot. -/
  | idleExpiry (slot : SlotIndex)
deriving DecidableEq, Repr

end Sys2Proof
end

