-- ==== Sys2Proof/Config.lean ====
section
/-! DEFINITION. What every TB-216 fixes: the capacities and limits of spec/00_scope.md 0.5 and of the rules named.
The spec leaves no value open that the broker goes on with, so there is no free value here. -/

namespace Sys2Proof.Config

/-- Bytes of a block (0.6): 16 words. -/
def blockBytes : Nat := 64

/-- Words in a request, an entry or a cycle: at most 16 (R24, R73, R127). -/
def maxWords : Nat := 16

/-- Parcels a receive buffer holds, and the partner's credit at arrival (R187). -/
def receiveCapacity : Nat := 2

/-- Responses a transmit buffer may hold before the intake takes no further parcel of the lane (R17, R188). -/
def responseLimit : Nat := 2

/-- Entries a posted write queue holds (R71). -/
def queueCapacity : Nat := 32

/-- Records the exception log holds (R154). -/
def logCapacity : Nat := 64

/-- Records one LOG TAKE removes at most (R157). -/
def logTakeMax : Nat := 4

/-- Where the lost count stays (R155). -/
def lostMax : Nat := 65535

/-- Where a failed-write count stays (R102). -/
def failedWritesMax : Nat := 255

/-- Where a consecutive-failure count stays (R141). -/
def failuresMax : Nat := 255

/-- BACKOFF endings in a row that make TARGET-BUSY (R54, R81, R115). -/
def backoffLimit : Nat := 16

/-- The claim limit in µs (R128). -/
def claimLimit : Nat := 1

/-- A slot holding fewer words than this requests a refill (R113). -/
def refillBelow : Nat := 16

end Sys2Proof.Config
end

