-- ==== Sys2Proof/Machine/State.lean ====
section
/-! DEFINITION. The state of the TB-216, block by block (spec/00_scope.md 0.3), and its value after power-on reset. -/

namespace Sys2Proof.Machine

/-- One of a thing for each segment. -/
structure PerSegment (α : Type) where
  a : α
  b : α
deriving DecidableEq, Repr

/-! ### Rack lanes -/

/-- DOWN or UP (R186). -/
inductive LaneState where
  | down
  | up
deriving DecidableEq, Repr

/-- The reasons of a REFUSED response (R21). -/
inductive RefusedReason where
  | malformed
  | noWindow
  | denied
  | notReadable
  | notWritable
  | notManager
  | badArgument
deriving DecidableEq, Repr

/-- The reasons of a FAILED response, which are also the failure outcomes of a DTT entry and the causes of a record
(R21, R39, R152). -/
inductive FailReason where
  | noTarget
  | targetFault
  | timeout
  | targetBusy
  | parity
  | segmentDown
deriving DecidableEq, Repr

/-- The four statuses, REFUSED and FAILED with their reason (R19, R20). -/
inductive Status where
  | complete
  | retry
  | refused (reason : RefusedReason)
  | failed (reason : FailReason)
deriving DecidableEq, Repr

/-- A response parcel (R19). -/
structure Response where
  status : Status
  tag : BitVec 4
  info : BitVec 16
  data : List Word
deriving DecidableEq, Repr

/-- What a transmit buffer holds: responses, and the ALERT with the number of records and the lost count (R160). -/
inductive TxParcel where
  | response (r : Response)
  | alert (records lost : Nat)
deriving DecidableEq, Repr

/-- One rack lane (R186 to R188). `rx` and `tx` are oldest first. `txLine` is what the lane last sent, as words: an
output of the port that nothing in the part reads, the model's own field (notes/assumptions/7.md). -/
structure Lane where
  state : LaneState
  epoch : Epoch
  rx : List Parcel
  tx : List TxParcel
  txLine : List Word
deriving DecidableEq, Repr

/-- The owner of an entry, a slot or a queue entry: a lane with the epoch it had (0.6, "Owner"). -/
structure Owner where
  lane : LaneId
  epoch : Epoch
deriving DecidableEq, Repr

/-! ### Window table -/

/-- The read modes of a window (R1). -/
inductive ReadMode where
  | none
  | deferred
  | stream
deriving DecidableEq, Repr

/-- The write modes of a window (R1). -/
inductive WriteMode where
  | none
  | posted
  | acked
deriving DecidableEq, Repr

/-- A window record (R1). The size is 2 to the power of `sizeCode` (R197). Bit m of a lane set is lane m. -/
structure WindowRecord where
  valid : Bool
  base : Word
  sizeCode : BitVec 5
  segment : Segment
  targetBase : SegAddr
  readMode : ReadMode
  writeMode : WriteMode
  merge : Bool
  readLanes : BitVec 15
  writeLanes : BitVec 15
deriving DecidableEq, Repr

/-! ### Barriers -/

/-- A barrier: a sequence number or "none" (R90), and the judgment, kept with the holder, whether it has been met
(R91). -/
structure Barrier where
  value : Option Seq
  met : Bool
deriving DecidableEq, Repr

/-- The barrier "none", met in the event in which it is taken (R91). -/
def Barrier.none : Barrier := { value := .none, met := true }

/-! ### Write data -/

/-- One word of a WRITE: four mask bits, bit b for byte b, and the data word (R195). -/
structure WriteWord where
  mask : BitVec 4
  data : Word
deriving DecidableEq, Repr

/-! ### Deferred Transaction Table -/

/-- The states of an entry (R39): FREE, QUEUED, ISSUED, PARTIAL (`partly`), READY, ABANDONED. -/
inductive EntryState where
  | free
  | queued
  | issued
  | partly
  | ready
  | abandoned
deriving DecidableEq, Repr

/-- READ or ACKED-WRITE (R39). -/
inductive EntryKind where
  | read
  | ackedWrite
deriving DecidableEq, Repr

/-- The outcome of a READY entry (R39). -/
inductive EntryOutcome where
  | success
  | failed (reason : FailReason)
deriving DecidableEq, Repr

/-- One entry of the table (R39). Which fields are read in which state is R40's matter. -/
structure DttEntry where
  state : EntryState
  owner : Owner
  kind : EntryKind
  address : Word
  words : Nat
  writeWords : List WriteWord
  streamFlag : Bool
  window : WindowIndex
  segment : Segment
  segAddr : SegAddr
  creation : BitVec 32
  barrier : Barrier
  progress : Nat
  backoff : Nat
  outcome : EntryOutcome
  readData : List Word
  expiry : Time
deriving DecidableEq, Repr

/-- A FREE entry. No other field is read in this state (R40); the values here are the model's
(notes/assumptions/5.md). -/
def DttEntry.cleared : DttEntry where
  state := .free
  owner := { lane := 0, epoch := 0 }
  kind := .read
  address := 0
  words := 0
  writeWords := []
  streamFlag := false
  window := 0
  segment := .a
  segAddr := 0
  creation := 0
  barrier := Barrier.none
  progress := 0
  backoff := 0
  outcome := .success
  readData := []
  expiry := 0

/-! ### Posted write queues -/

/-- One queue entry (R68). The word count is the length of `writeWords`. The close time is present only while the
entry is open, so an entry without one is closed (R68, R77). -/
structure QueueEntry where
  owner : Owner
  window : WindowIndex
  segAddr : SegAddr
  writeWords : List WriteWord
  seq : Seq
  closeTime : Option Time
  progress : Nat
  backoff : Nat
deriving DecidableEq, Repr

/-- One posted write queue: its entries, head first, its sequence counter and its retired mark (R68, R69). -/
structure PostedQueue where
  entries : List QueueEntry
  counter : Seq
  retired : Seq
deriving DecidableEq, Repr

/-! ### Stream slots -/

/-- The states of a slot (R106). -/
inductive SlotState where
  | empty
  | holding
  | filling
  | retiring
deriving DecidableEq, Repr

/-- The pending refill of a slot (R107). Its request order is its slot's place in `State.refillOrder`. -/
structure PendingRefill where
  start : SegAddr
  words : Nat
  barrier : Barrier
  progress : Nat
  backoff : Nat
  inCycle : Bool
deriving DecidableEq, Repr

/-- One stream slot (R106). `windowEnd` is a number, since base + size may be 2^32. -/
structure StreamSlot where
  state : SlotState
  owner : Owner
  window : WindowIndex
  segment : Segment
  nextAddr : Word
  nextSegAddr : SegAddr
  windowEnd : Nat
  held : List Word
  lastUse : Time
  idleExpiry : Time
  refill : Option PendingRefill
deriving DecidableEq, Repr

/-- An EMPTY slot. No other field is read in this state (R106); the values here are the model's
(notes/assumptions/5.md). -/
def StreamSlot.cleared : StreamSlot where
  state := .empty
  owner := { lane := 0, epoch := 0 }
  window := 0
  segment := .a
  nextAddr := 0
  nextSegAddr := 0
  windowEnd := 0
  held := []
  lastUse := 0
  idleExpiry := 0
  refill := none

/-! ### Segment engines -/

/-- The segment states (7.6). -/
inductive SegmentState where
  | enabled
  | disabled
  | faulted
deriving DecidableEq, Repr

/-- The value of the last W-or-F grant (R136). -/
inductive WorF where
  | w
  | f
deriving DecidableEq, Repr

/-- The item of a cycle: a queue entry by its number, a DTT entry or a stream slot by its index (R134). -/
inductive WorkItem where
  | queueEntry (seq : Seq)
  | dttEntry (i : EntryIndex)
  | streamSlot (i : SlotIndex)
deriving DecidableEq, Repr

/-- The kind lines of a select (R127). -/
inductive CycleKind where
  | read
  | write
deriving DecidableEq, Repr

/-- Where a cycle stands (R127): waiting for a claim since a timebase value, or in its data phase at a boundary
reached at a timebase value (R129). -/
inductive CyclePhase where
  | claim (since : Time)
  | data (boundary : Time)
deriving DecidableEq, Repr

/-- The item in progress of a BUSY engine (R134), with the state of its transfer: the phase, the words passed, the
read words passed and whether one was bad (R127 to R133). -/
structure Cycle where
  item : WorkItem
  kind : CycleKind
  segAddr : SegAddr
  words : Nat
  writeWords : List WriteWord
  backoffAtGrant : Nat
  holdLimit : Nat
  phase : CyclePhase
  passed : Nat
  readData : List Word
  badWord : Bool
deriving DecidableEq, Repr

/-- One segment engine (R134, R136, R141). It is IDLE when it has no item in progress and BUSY when it has one. -/
structure Engine where
  state : SegmentState
  failures : Nat
  lastWF : WorF
  cycle : Option Cycle
deriving DecidableEq, Repr

/-! ### Exception log -/

/-- The record kinds (R152). -/
inductive RecordKind where
  | postedWriteFailed
  | writesDropped
  | completionDiscarded
  | workAbandoned
  | streamRefillFailed
  | segmentFaulted
deriving DecidableEq, Repr

/-- The causes of a record (R152). -/
inductive Cause where
  | success
  | failed (reason : FailReason)
  | segmentFault
  | brokerReset
deriving DecidableEq, Repr

/-- What a block hands the log: the kind and the fields R153 names for it. -/
structure RecordBody where
  kind : RecordKind
  lane : Option LaneId := none
  segment : Option Segment := none
  segAddr : Option SegAddr := none
  words : Option Nat := none
  entryKind : Option EntryKind := none
  cause : Option Cause := none
  count : Option Nat := none
deriving DecidableEq, Repr

/-- A stored record: what was handed, with its sequence and its time (R152, R154). -/
structure LogRecord where
  seq : BitVec 16
  time : Time
  body : RecordBody
deriving DecidableEq, Repr

/-- The exception log (R152, R154, R155, R158). -/
structure ExceptionLog where
  records : List LogRecord
  counter : BitVec 16
  lost : Nat
  alertOutstanding : Bool
deriving DecidableEq, Repr

/-! ### Management agent -/

/-- The gate (R172). -/
inductive Gate where
  | opened
  | closed
deriving DecidableEq, Repr

/-- The ten parameters (R174). -/
structure Parameters where
  discardTime : Nat
  quota : Nat
  mergeWindow : Nat
  highWater : Nat
  streamIdle : Nat
  holdLimitA : Nat
  holdLimitB : Nat
  faultThresholdA : Nat
  faultThresholdB : Nat
  alerts : Bool
deriving DecidableEq, Repr

/-! ### The state -/

/-- Why a command would stop the machine: never. Every failure the spec describes is a response, an outcome, a record
or a segment state, and the broker goes on; so this type has no constructor. -/
inductive Fault where
deriving DecidableEq, Repr

/-- Why the model would answer no meaning. -/
inductive Refusal where
  /-- The command of that row has no meaning in the model yet. Raised by no meaning; an arm of Dispatch that is not
  modelled would answer it. Safe: no claim about a next state follows from it. -/
  | notModelled (mnemonic : String)
deriving DecidableEq, Repr

/-- The two barriers of a fence record or of the drain record, one on each queue (R91, R93, R99). -/
abbrev BarrierPair := PerSegment Barrier

/-- All state of the broker (0.3), and the queue of the commands that wait. -/
structure State where
  /-- The rack lanes (R186). -/
  lanes : Vector Lane 15
  /-- The last lane granted at the intake (R17). -/
  lastGranted : LaneId
  /-- The STAGED bank (R3). -/
  staged : Vector WindowRecord 24
  /-- The LIVE bank (R3). -/
  live : Vector WindowRecord 24
  /-- The generation (R4). -/
  generation : BitVec 16
  /-- The Deferred Transaction Table (R39). -/
  dtt : Vector DttEntry 16
  /-- The DTT creation counter (R46). -/
  creationCounter : BitVec 32
  /-- PWQ-A and PWQ-B (R68). -/
  queues : PerSegment PostedQueue
  /-- The fence records, absent or present (R93). -/
  fences : Vector (Option BarrierPair) 15
  /-- The drain record (R99). -/
  drain : Option BarrierPair
  /-- The failed-write counts, 0..255 (R102). -/
  failedWrites : Vector Nat 15
  /-- The stream slots (R106). -/
  slots : Vector StreamSlot 4
  /-- The request order of the pending refills of each segment, oldest first (R107, R108). -/
  refillOrder : PerSegment (List SlotIndex)
  /-- The segment engines (R134). -/
  engines : PerSegment Engine
  /-- The exception log (R152). -/
  log : ExceptionLog
  /-- The manager lane, or none (R165). -/
  manager : Option LaneId
  /-- The gate (R172). -/
  gate : Gate
  /-- The parameters (R174). -/
  params : Parameters
  /-- The timebase (R178). -/
  timebase : Time
  /-- The commands waiting, first in first out (the model's own, notes/assumptions/8.md). -/
  pending : List Instr
deriving DecidableEq, Repr

/-! ### Values after power-on reset -/

/-- A lane after power-on reset (R186). -/
def Lane.reset : Lane := { state := .down, epoch := 0, rx := [], tx := [], txLine := [] }

/-- The cleared record (R2): size 4 KiB is code 12. -/
def WindowRecord.cleared : WindowRecord where
  valid := false
  base := 0
  sizeCode := 12
  segment := .a
  targetBase := 0
  readMode := .none
  writeMode := .none
  merge := false
  readLanes := 0
  writeLanes := 0

/-- A queue after power-on reset (R69). -/
def PostedQueue.reset : PostedQueue := { entries := [], counter := 0, retired := 0 }

/-- An engine after power-on reset (R134, R136, R141). -/
def Engine.reset : Engine := { state := .enabled, failures := 0, lastWF := .w, cycle := none }

/-- The log after power-on reset (R161). -/
def ExceptionLog.reset : ExceptionLog := { records := [], counter := 0, lost := 0, alertOutstanding := false }

/-- The defaults (R174). -/
def Parameters.reset : Parameters where
  discardTime := 4096
  quota := 4
  mergeWindow := 8
  highWater := 24
  streamIdle := 512
  holdLimitA := 200
  holdLimitB := 200
  faultThresholdA := 8
  faultThresholdB := 8
  alerts := false

/-- The broker right after power-on reset, with no command waiting (chapter 11, first paragraph, and the rules at each
field). -/
def State.reset : State where
  lanes := Vector.replicate 15 Lane.reset
  lastGranted := 14
  staged := Vector.replicate 24 WindowRecord.cleared
  live := Vector.replicate 24 WindowRecord.cleared
  generation := 0
  dtt := Vector.replicate 16 DttEntry.cleared
  creationCounter := 0
  queues := { a := PostedQueue.reset, b := PostedQueue.reset }
  fences := Vector.replicate 15 none
  drain := none
  failedWrites := Vector.replicate 15 0
  slots := Vector.replicate 4 StreamSlot.cleared
  refillOrder := { a := [], b := [] }
  engines := { a := Engine.reset, b := Engine.reset }
  log := ExceptionLog.reset
  manager := none
  gate := .closed
  params := Parameters.reset
  timebase := 0
  pending := []

end Sys2Proof.Machine
end

