-- ==== Sys2Proof/Machine/Ops.lean ====
section
/-! DEFINITION. The shared operations: reading and writing each block's state, the exception log and its ALERT, the
buffers of a lane, barriers, closure of a tail, failed-write counts and drops of stream slots. -/

namespace Sys2Proof.Machine

/-! ### Tables and lists -/

/-- Every item of a table changed by one function. -/
def mapAll {α β : Type} {n : Nat} (f : α → β) (v : Vector α n) : Vector β n := v.mapIdx fun _ x => f x

/-- The lowest index whose item passes a test. -/
def findFirst {α : Type} {n : Nat} (p : α → Bool) (v : Vector α n) : Option (Fin n) :=
  (List.finRange n).find? fun i => p v[i]

/-- How many items of a table pass a test. -/
def countWhere {α : Type} {n : Nat} (p : α → Bool) (v : Vector α n) : Nat := v.toList.countP p

/-- The item of greatest key, the earlier of two with equal keys. -/
def pickMax {α : Type} (key : α → Nat) : List α → Option α
  | [] => none
  | x :: xs =>
    match pickMax key xs with
    | none => some x
    | some y => if key y ≤ key x then some x else some y

/-- The last item of a list changed. -/
def mapLast {α : Type} (f : α → α) : List α → List α
  | [] => []
  | [x] => [f x]
  | x :: y :: t => x :: mapLast f (y :: t)

/-! ### Access to the blocks -/

/-- The item of a segment. -/
def PerSegment.get {α : Type} (p : PerSegment α) : Segment → α
  | .a => p.a
  | .b => p.b

/-- The item of a segment replaced. -/
def PerSegment.set {α : Type} (p : PerSegment α) (g : Segment) (x : α) : PerSegment α :=
  match g with
  | .a => { p with a := x }
  | .b => { p with b := x }

/-- Both items changed by one function. -/
def PerSegment.map {α β : Type} (f : α → β) (p : PerSegment α) : PerSegment β := { a := f p.a, b := f p.b }

/-- One lane changed. -/
def State.modifyLane (s : State) (n : LaneId) (f : Lane → Lane) : State :=
  { s with lanes := s.lanes.set n (f s.lanes[n]) }

/-- One DTT entry replaced. -/
def State.setEntry (s : State) (i : EntryIndex) (e : DttEntry) : State := { s with dtt := s.dtt.set i e }

/-- One posted write queue replaced. -/
def State.setQueue (s : State) (g : Segment) (q : PostedQueue) : State := { s with queues := s.queues.set g q }

/-- One segment engine replaced. -/
def State.setEngine (s : State) (g : Segment) (e : Engine) : State := { s with engines := s.engines.set g e }

/-- One fence record replaced. -/
def State.setFence (s : State) (n : LaneId) (r : Option BarrierPair) : State := { s with fences := s.fences.set n r }

/-- One failed-write count replaced. -/
def State.setFailedWrites (s : State) (n : LaneId) (k : Nat) : State :=
  { s with failedWrites := s.failedWrites.set n k }

/-- The slots replaced. A slot without a pending refill leaves the request order (R108). -/
def State.setSlots (s : State) (v : Vector StreamSlot 4) : State :=
  { s with slots := v, refillOrder := s.refillOrder.map fun l => l.filter fun i => v[i].refill.isSome }

/-- One slot replaced. -/
def State.setSlot (s : State) (i : SlotIndex) (x : StreamSlot) : State := s.setSlots (s.slots.set i x)

/-- The owner that a parcel of lane n acts for: the lane under its current epoch (R33). -/
def State.currentOwner (s : State) (n : LaneId) : Owner := { lane := n, epoch := s.lanes[n].epoch }

/-- A timer set now (R179): the timebase plus a delay, modulo 2^32. -/
def State.after (s : State) (delay : Nat) : Time := s.timebase + BitVec.ofNat 32 delay

/-! ### The exception log and the ALERT (chapter 8) -/

/-- One record handed to the log (R154, R155). -/
def ExceptionLog.hand (l : ExceptionLog) (now : Time) (b : RecordBody) : ExceptionLog :=
  if l.records.length < Config.logCapacity then
    { l with records := l.records ++ [{ seq := l.counter, time := now, body := b }], counter := l.counter + 1 }
  else
    { l with lost := min (l.lost + 1) Config.lostMax }

/-- The records of one event, taken one by one in the order in which the event hands them (R156). -/
def handRecords (bs : List RecordBody) (s : State) : State :=
  { s with log := bs.foldl (fun l b => l.hand s.timebase b) s.log }

/-- The parcel is an ALERT. -/
def TxParcel.isAlert : TxParcel → Bool
  | .alert _ _ => true
  | .response _ => false

/-- The parcel is a response. -/
def TxParcel.isResponse : TxParcel → Bool
  | .alert _ _ => false
  | .response _ => true

/-- A response behind the parcels already placed (R18, R188). -/
def Lane.pushResponse (l : Lane) (r : Response) : Lane := { l with tx := l.tx ++ [.response r] }

/-- An ALERT placed: an unsent one takes the new values and keeps its place (R160, R188). -/
def Lane.placeAlert (l : Lane) (records lost : Nat) : Lane :=
  if l.tx.any TxParcel.isAlert then
    { l with tx := l.tx.map fun p => if p.isAlert then .alert records lost else p }
  else
    { l with tx := l.tx ++ [.alert records lost] }

/-- The ALERT trigger (R159): one ALERT on the manager lane, carrying the log as it now stands, when ALERTS is on, a
lane holds the role and no alert is outstanding. -/
def alertTrigger (s : State) : State :=
  match s.manager with
  | none => s
  | some m =>
    if s.params.alerts && !s.log.alertOutstanding then
      { s.modifyLane m (fun l => l.placeAlert s.log.records.length s.log.lost) with
        log := { s.log with alertOutstanding := true } }
    else s

/-- The end of an event that hands records: each is stored or lost, and then the trigger is applied once if there was
one (R156, R159). -/
def recordEvent (bs : List RecordBody) (s : State) : State :=
  if bs.isEmpty then s else alertTrigger (handRecords bs s)

/-! ### Posted write queues: what other blocks read and close -/

/-- The entry is closed: it has no close time (R68, R77). -/
def QueueEntry.closed (e : QueueEntry) : Bool := e.closeTime.isNone

/-- The word count of an entry (R68). -/
def QueueEntry.words (e : QueueEntry) : Nat := e.writeWords.length

/-- The entry closed (R77). -/
def QueueEntry.close (e : QueueEntry) : QueueEntry := { e with closeTime := none }

/-- The tail, if the queue holds an entry (R68). -/
def PostedQueue.tail (q : PostedQueue) : Option QueueEntry := q.entries.getLast?

/-- The tail closed if it is open (R77). -/
def PostedQueue.closeTail (q : PostedQueue) : PostedQueue := { q with entries := mapLast QueueEntry.close q.entries }

/-- The tail of a segment's queue closed. -/
def closeTail (g : Segment) (s : State) : State := s.setQueue g (s.queues.get g).closeTail

/-- The tails of both queues closed. -/
def closeTails (s : State) : State := closeTail .b (closeTail .a s)

/-! ### Barriers (chapter 5) -/

/-- The barrier that names a sequence number, not yet met (R91). -/
def Barrier.on (b : Seq) : Barrier := { value := some b, met := false }

/-- The barrier a DTT entry, a refill or the drain record takes on a queue: its tail's number, or none (R90). -/
def PostedQueue.tailBarrier (q : PostedQueue) : Barrier :=
  match q.tail with
  | some e => Barrier.on e.seq
  | none => Barrier.none

/-- The barrier a fence record takes on a queue: the number of the owner's newest entry there, or none (R90, R94). -/
def PostedQueue.ownerBarrier (q : PostedQueue) (o : Owner) : Barrier :=
  match q.entries.reverse.find? (fun e => e.owner = o) with
  | some e => Barrier.on e.seq
  | none => Barrier.none

/-- The entry carrying b has left its queue: a barrier that names it is met (R91). -/
def Barrier.meet (b : Seq) (x : Barrier) : Barrier := if x.value = some b then { x with met := true } else x

/-- The barrier of a refill met. -/
def PendingRefill.meet (b : Seq) (r : PendingRefill) : PendingRefill := { r with barrier := r.barrier.meet b }

/-- A DTT entry's barrier met, when the entry is of the segment. -/
def DttEntry.meet (g : Segment) (b : Seq) (e : DttEntry) : DttEntry :=
  if e.segment = g then { e with barrier := e.barrier.meet b } else e

/-- A slot's refill barrier met, when the slot is on the segment. -/
def StreamSlot.meet (g : Segment) (b : Seq) (x : StreamSlot) : StreamSlot :=
  if x.segment = g then { x with refill := x.refill.map (PendingRefill.meet b) } else x

/-- A fence or drain record's barrier on one queue met. -/
def BarrierPair.meet (g : Segment) (b : Seq) (r : BarrierPair) : BarrierPair := PerSegment.set r g ((PerSegment.get r g).meet b)

/-- Both barriers of a record are met (R91). -/
def BarrierPair.allMet (r : BarrierPair) : Bool := r.a.met && r.b.met

/-- The entry carrying b has left queue g: every barrier that names it is met, in the same event (R91). -/
def meetBarriers (g : Segment) (b : Seq) (s : State) : State :=
  { s with
    dtt := mapAll (DttEntry.meet g b) s.dtt
    slots := mapAll (StreamSlot.meet g b) s.slots
    fences := mapAll (Option.map (BarrierPair.meet g b)) s.fences
    drain := s.drain.map (BarrierPair.meet g b) }

/-! ### Failed-write counts (R102) -/

/-- An entry of owner o failed or was discarded: one more, saturating, when the lane is UP at the owner epoch. -/
def countFailedWrite (o : Owner) (s : State) : State :=
  if s.lanes[o.lane].state = .up ∧ s.lanes[o.lane].epoch = o.epoch then
    s.setFailedWrites o.lane (min (s.failedWrites[o.lane] + 1) Config.failedWritesMax)
  else s

/-! ### Drops of stream slots (R118) -/

/-- The slot has a refill in a segment cycle. -/
def StreamSlot.inCycle (x : StreamSlot) : Bool :=
  match x.refill with
  | some r => r.inCycle
  | none => false

/-- The slot serves: HOLDING or FILLING (R26). -/
def StreamSlot.live (x : StreamSlot) : Bool := x.state = .holding || x.state = .filling

/-- The drop of a slot, by its state (R118). -/
def StreamSlot.drop (x : StreamSlot) : StreamSlot :=
  match x.state with
  | .empty => x
  | .holding => StreamSlot.cleared
  | .filling => if x.inCycle then { x with state := .retiring, held := [] } else StreamSlot.cleared
  | .retiring => x

/-- One slot dropped. A withdrawn refill leaves the request order. -/
def dropSlot (i : SlotIndex) (s : State) : State := s.setSlot i s.slots[i].drop

/-- Every slot that passes a test dropped. -/
def dropSlots (p : StreamSlot → Bool) (s : State) : State :=
  s.setSlots (mapAll (fun x => if p x then x.drop else x) s.slots)

end Sys2Proof.Machine
end

