-- ==== Sys2Proof/Machine/Flags.lean ====
section
/-! DEFINITION. What the engine judges at a cycle: byte parity (R131, R132), the ending taken (R130), the outcome and
the words done (R133), the outcome for the consecutive-failure count (R140, R141) and the fault test (R143). -/

namespace Sys2Proof.Machine

/-! ### Parity -/

/-- Byte b of a word: bits 8b+7..8b (R195). -/
def byteOf (w : Word) (b : Nat) : BitVec 8 := w.extractLsb' (8 * b) 8

/-- How many bits of a byte are one. -/
def onesOf (x : BitVec 8) : Nat := ((List.range 8).map fun i => if x.getLsbD i then 1 else 0).sum

/-- The odd parity bit of a byte: a byte together with it holds an odd number of ones (R132). -/
def oddParity (x : BitVec 8) : Bool := onesOf x % 2 = 0

/-- The four parity bits of a word, bit b for byte b (R131, R132). -/
def wordParity (w : Word) : BitVec 4 :=
  BitVec.ofNat 4 (((List.range 4).map fun b => if oddParity (byteOf w b) then 2 ^ b else 0).sum)

/-- A word with one or more bytes in error is a bad word (R132). -/
def parityError (w : Word) (parity : BitVec 4) : Bool := parity ≠ wordParity w

/-! ### Endings and outcomes -/

/-- The ending of a cycle: one a target signalled, or one the engine made by a limit (R128 to R130). -/
inductive Ending where
  | noTarget
  | timeout
  | done
  | stop
  | backoff
  | fault
deriving DecidableEq, Repr

/-- What a signal is taken as at the boundary after word k of n (R130). -/
def endingAt (k n : Nat) : TargetEnding → Ending
  | .fault => .fault
  | .done | .stop | .backoff => if k = n then .done else if k = 0 then .backoff else .stop

/-- The outcomes of a cycle (R133). -/
inductive CycleOutcome where
  | done
  | stop
  | backoff
  | noTarget
  | timeout
  | fault
  | parity
deriving DecidableEq, Repr

/-- What the engine hands the owner: the outcome, the words reported done and the read words that passed (R133,
R138). -/
structure CycleResult where
  outcome : CycleOutcome
  done : Nat
  data : List Word
deriving DecidableEq, Repr

/-- A READ cycle that carried a bad word (R133). -/
def Cycle.spoiled (c : Cycle) : Bool := c.kind = .read && c.badWord

/-- The outcome of an ending, with the precedence NO-TARGET, TIMEOUT, FAULT, PARITY (R133). -/
def Cycle.outcome (c : Cycle) : Ending → CycleOutcome
  | .noTarget => .noTarget
  | .timeout => .timeout
  | .fault => .fault
  | .done => if c.spoiled then .parity else .done
  | .stop => if c.spoiled then .parity else .stop
  | .backoff => .backoff

/-- The words reported done (R133): those passed, which are n after DONE, k after STOP and FAULT, and none after
NO-TARGET and BACKOFF. -/
def Cycle.wordsDone (c : Cycle) : Ending → Nat
  | .noTarget => 0
  | .backoff => 0
  | .timeout | .fault | .done | .stop => c.passed

/-- The result of a cycle (R133). -/
def Cycle.result (c : Cycle) (e : Ending) : CycleResult :=
  { outcome := c.outcome e, done := c.wordsDone e, data := c.readData }

/-- The failure an outcome is for its owner: none for DONE, STOP and BACKOFF; FAULT is reported as TARGET-FAULT
(R133). -/
def CycleOutcome.failure : CycleOutcome → Option FailReason
  | .done => none
  | .stop => none
  | .backoff => none
  | .noTarget => some .noTarget
  | .timeout => some .timeout
  | .fault => some .targetFault
  | .parity => some .parity

/-! ### The consecutive-failure count and the fault test -/

/-- The failure a cycle's outcome is for the count: a BACKOFF of an item granted with 15 in a row is TARGET-BUSY
(R140). -/
def Cycle.countedFailure (c : Cycle) (o : CycleOutcome) : Option FailReason :=
  match o with
  | .backoff => if c.backoffAtGrant = 15 then some .targetBusy else none
  | .done => none
  | .stop => none
  | .noTarget => some .noTarget
  | .timeout => some .timeout
  | .fault => some .targetFault
  | .parity => some .parity

/-- The count after an outcome (R141). -/
def Cycle.nextFailures (c : Cycle) (o : CycleOutcome) (count : Nat) : Nat :=
  match c.countedFailure o with
  | some _ => min (count + 1) Config.failuresMax
  | none => if o = .backoff then count else 0

/-- The fault threshold of a segment (R142). -/
def Parameters.faultThreshold (p : Parameters) : Segment → Nat
  | .a => p.faultThresholdA
  | .b => p.faultThresholdB

/-- The hold limit of a segment (R129). -/
def Parameters.holdLimit (p : Parameters) : Segment → Nat
  | .a => p.holdLimitA
  | .b => p.holdLimitB

/-- The fault test: the cause when the segment becomes FAULTED (R143). A segment that is already FAULTED is not
tested. -/
def faultCause (state : SegmentState) (failure : Option FailReason) (count threshold : Nat) : Option FailReason :=
  if state ≠ .faulted ∧ threshold ≠ 0 ∧ threshold ≤ count then failure else none

end Sys2Proof.Machine
end

