-- ==== Sys2Proof/Machine/Operands.lean ====
section
/-! DEFINITION. The formats of 10.8: request parcels and their form check (R24, R195, R199), window records (R6,
R197), response and ALERT parcels (R196), log records and the status result (R198). -/

namespace Sys2Proof.Machine

/-! ### Fields of a word -/

/-- Bits hi..lo of a word, as a number. -/
def field (w : Word) (hi lo : Nat) : Nat := w.toNat / 2 ^ lo % 2 ^ (hi + 1 - lo)

/-- One field to be packed: its bits hi..lo and its value. -/
structure Packed where
  hi : Nat
  lo : Nat
  value : Nat

/-- The fields of a word as one number; bits of no field are 0. -/
def packNat : List Packed → Nat
  | [] => 0
  | f :: fs => f.value % 2 ^ (f.hi + 1 - f.lo) * 2 ^ f.lo + packNat fs

/-- A word made of its fields. -/
def pack (fs : List Packed) : Word := BitVec.ofNat 32 (packNat fs)

/-- A flag as a bit. -/
def bit (b : Bool) : Nat := if b then 1 else 0

/-! ### Codes -/

/-- Segment codes (R197 to R199). -/
def segmentCode : Segment → Nat
  | .a => 0
  | .b => 1

/-- The segment a code names, or none (R197, R199). -/
def segmentOfCode : Nat → Option Segment
  | 0 => some .a
  | 1 => some .b
  | _ => none

/-- Read mode codes (R197). -/
def ReadMode.code : ReadMode → Nat
  | .none => 0
  | .deferred => 1
  | .stream => 2

/-- The read mode a code names, or none (R197). -/
def ReadMode.ofCode : Nat → Option ReadMode
  | 0 => some .none
  | 1 => some .deferred
  | 2 => some .stream
  | _ => Option.none

/-- Write mode codes (R197). -/
def WriteMode.code : WriteMode → Nat
  | .none => 0
  | .posted => 1
  | .acked => 2

/-- The write mode a code names, or none (R197). -/
def WriteMode.ofCode : Nat → Option WriteMode
  | 0 => some .none
  | 1 => some .posted
  | 2 => some .acked
  | _ => Option.none

/-- Codes of the failure reasons, in FAILED responses (R196) and as causes (R198). -/
def FailReason.code : FailReason → Nat
  | .noTarget => 1
  | .targetFault => 2
  | .timeout => 3
  | .targetBusy => 4
  | .parity => 5
  | .segmentDown => 6

/-- Codes of the refusal reasons (R196). -/
def RefusedReason.code : RefusedReason → Nat
  | .malformed => 1
  | .noWindow => 2
  | .denied => 3
  | .notReadable => 4
  | .notWritable => 5
  | .notManager => 6
  | .badArgument => 7

/-- Status codes (R196). -/
def Status.code : Status → Nat
  | .complete => 0
  | .retry => 1
  | .refused _ => 2
  | .failed _ => 3

/-- The reason code of a status, 0 for none (R196). -/
def Status.reasonCode : Status → Nat
  | .complete => 0
  | .retry => 0
  | .refused r => r.code
  | .failed r => r.code

/-- Cause codes (R198). -/
def Cause.code : Cause → Nat
  | .success => 0
  | .failed r => r.code
  | .segmentFault => 7
  | .brokerReset => 8

/-- Record kind codes (R198). -/
def RecordKind.code : RecordKind → Nat
  | .postedWriteFailed => 1
  | .writesDropped => 2
  | .completionDiscarded => 3
  | .workAbandoned => 4
  | .streamRefillFailed => 5
  | .segmentFaulted => 6

/-- Entry kind codes (R198). -/
def EntryKind.code : EntryKind → Nat
  | .read => 0
  | .ackedWrite => 1

/-- Slot state codes (R198). -/
def SlotState.code : SlotState → Nat
  | .empty => 0
  | .holding => 1
  | .filling => 2
  | .retiring => 3

/-- Segment state codes (R198). -/
def SegmentState.code : SegmentState → Nat
  | .enabled => 0
  | .disabled => 1
  | .faulted => 2

/-! ### Request parcels -/

/-- The sixteen management operations (9.1). -/
inductive MgmtOp where
  | claim
  | release
  | openGate
  | closeGate
  | stageWindow
  | readWindow
  | commit
  | setParameter
  | getParameter
  | getStatus
  | logTake
  | segmentEnable
  | segmentDisable
  | drain
  | purgeLane
  | brokerReset
deriving DecidableEq, Repr

/-- The operation a code names (R199). -/
def MgmtOp.ofCode : Nat → Option MgmtOp
  | 0x01 => some .claim
  | 0x02 => some .release
  | 0x03 => some .openGate
  | 0x04 => some .closeGate
  | 0x05 => some .stageWindow
  | 0x06 => some .readWindow
  | 0x07 => some .commit
  | 0x08 => some .setParameter
  | 0x09 => some .getParameter
  | 0x0A => some .getStatus
  | 0x0B => some .logTake
  | 0x0C => some .segmentEnable
  | 0x0D => some .segmentDisable
  | 0x0E => some .drain
  | 0x0F => some .purgeLane
  | 0x10 => some .brokerReset
  | _ => none

/-- What a parcel asks once its form is checked. -/
inductive Request where
  | malformed
  | read (address : Word) (words : Nat)
  | write (address : Word) (words : List WriteWord)
  | fence
  | mgmt (op : MgmtOp) (args : List Word)
deriving DecidableEq, Repr

/-- The kind code of a parcel (R195). -/
def kindCode (p : Parcel) : Nat := field p.head 31 28

/-- The tag of a parcel (R195). -/
def tagOf (p : Parcel) : BitVec 4 := BitVec.ofNat 4 (field p.head 27 24)

/-- The word count or argument count of a parcel (R195). -/
def countOf (p : Parcel) : Nat := field p.head 23 16

/-- The operation code of a parcel (R195). -/
def opCodeOf (p : Parcel) : Nat := field p.head 7 0

/-- The offset of a byte address within its block (0.6). -/
def blockOffset (a : Nat) : Nat := a % Config.blockBytes

/-- The word count and address of a READ or WRITE pass the form check: 1..16 words, word-aligned, in one block (R24). -/
def spanOk (address : Word) (words : Nat) : Bool :=
  1 ≤ words && words ≤ Config.maxWords && address.toNat % 4 = 0 &&
    blockOffset address.toNat + 4 * words ≤ Config.blockBytes

/-- Mask words that precede the data of a WRITE of n words: ceil(n/8) (R195). -/
def maskWords (n : Nat) : Nat := (n + 7) / 8

/-- The masks and data of a WRITE payload of n words (R195): mask of word i in bits 4j+3..4j of its mask word, j being
i modulo 8. -/
def writeWordsOf (n : Nat) (payload : List Word) : List WriteWord :=
  (List.range n).map fun i =>
    { mask := BitVec.ofNat 4 (field (payload.getD (i / 8) 0) (4 * (i % 8) + 3) (4 * (i % 8)))
      data := payload.getD (maskWords n + i) 0 }

/-- The form check of R24 over the layout of R195. A parcel without its second header word is malformed
(notes/assumptions/4.md). -/
def requestOf (p : Parcel) : Request :=
  match p.rest with
  | [] => .malformed
  | address :: payload =>
    match kindCode p with
    | 1 => if spanOk address (countOf p) && payload.isEmpty then .read address (countOf p) else .malformed
    | 2 =>
      if spanOk address (countOf p) && payload.length = maskWords (countOf p) + countOf p &&
          (writeWordsOf (countOf p) payload).any (fun w => w.mask ≠ 0) then
        .write address (writeWordsOf (countOf p) payload)
      else .malformed
    | 3 => if payload.isEmpty then .fence else .malformed
    | 4 =>
      match MgmtOp.ofCode (opCodeOf p) with
      | some op => if countOf p ≤ 16 && payload.length = countOf p then .mgmt op payload else .malformed
      | none => .malformed
    | _ => .malformed

/-! ### Window records -/

/-- The size of a window in bytes (R197). -/
def WindowRecord.size (w : WindowRecord) : Nat := 2 ^ w.sizeCode.toNat

/-- The window end: the first backplane address past the window (R1). -/
def WindowRecord.windowEnd (w : WindowRecord) : Nat := w.base.toNat + w.size

/-- The conditions of R6 on the numbers of a valid record: its size, base and target base. The codes and lane sets are
checked where the record is read. -/
def WindowRecord.passes (w : WindowRecord) : Bool :=
  12 ≤ w.sizeCode.toNat && w.sizeCode.toNat ≤ 28 &&
    w.base.toNat % w.size = 0 && w.targetBase.toNat % 4096 = 0 &&
    w.targetBase.toNat + w.size ≤ 2 ^ 28 && (!w.merge || w.writeMode = .posted)

/-- The record that STAGE WINDOW stores for four words: the cleared record when valid = no (R2), the record as supplied
when it passes every check of R6, and none when it fails one (R5, R197). -/
def WindowRecord.ofWords (w0 w1 w2 w3 : Word) : Option WindowRecord :=
  if field w0 31 31 = 0 then some WindowRecord.cleared
  else
    match segmentOfCode (field w0 9 8), ReadMode.ofCode (field w0 13 12), WriteMode.ofCode (field w0 17 16) with
    | some g, some rm, some wm =>
      let w : WindowRecord :=
        { valid := true, base := w1, sizeCode := BitVec.ofNat 5 (field w0 4 0), segment := g,
          targetBase := BitVec.ofNat 28 (field w2 27 0), readMode := rm, writeMode := wm,
          merge := field w0 20 20 = 1, readLanes := BitVec.ofNat 15 (field w3 14 0),
          writeLanes := BitVec.ofNat 15 (field w3 30 16) }
      if w.passes && field w3 15 15 = 0 && field w3 31 31 = 0 then some w else none
    | _, _, _ => none

/-- The four words of a window record (R197). -/
def WindowRecord.toWords (w : WindowRecord) : List Word :=
  [pack [⟨31, 31, bit w.valid⟩, ⟨20, 20, bit w.merge⟩, ⟨17, 16, w.writeMode.code⟩, ⟨13, 12, w.readMode.code⟩,
      ⟨9, 8, segmentCode w.segment⟩, ⟨4, 0, w.sizeCode.toNat⟩],
    w.base,
    pack [⟨27, 0, w.targetBase.toNat⟩],
    pack [⟨30, 16, w.writeLanes.toNat⟩, ⟨14, 0, w.readLanes.toNat⟩]]

/-! ### Response and ALERT parcels -/

/-- The words of a parcel the broker sends (R196). -/
def TxParcel.toWords : TxParcel → List Word
  | .response r =>
    pack [⟨31, 28, 8⟩, ⟨27, 24, r.tag.toNat⟩, ⟨23, 20, r.status.code⟩, ⟨19, 16, r.status.reasonCode⟩,
        ⟨15, 0, r.info.toNat⟩] :: pack [⟨4, 0, r.data.length⟩] :: r.data
  | .alert records lost =>
    [pack [⟨31, 28, 9⟩, ⟨15, 0, records⟩], pack [⟨4, 0, 1⟩], pack [⟨15, 0, lost⟩]]

/-! ### Log records -/

/-- The four words of a log record; an absent field reads as 0 (R152, R198). -/
def LogRecord.toWords (r : LogRecord) : List Word :=
  [pack [⟨31, 16, r.seq.toNat⟩, ⟨15, 12, r.body.kind.code⟩, ⟨11, 8, (r.body.lane.map Fin.val).getD 0⟩,
      ⟨7, 7, (r.body.segment.map segmentCode).getD 0⟩, ⟨6, 6, (r.body.entryKind.map EntryKind.code).getD 0⟩,
      ⟨3, 0, (r.body.cause.map Cause.code).getD 0⟩],
    r.time,
    pack [⟨27, 0, (r.body.segAddr.map BitVec.toNat).getD 0⟩],
    pack [⟨20, 16, r.body.words.getD 0⟩, ⟨7, 0, r.body.count.getD 0⟩]]

/-! ### The status result -/

/-- How many entries are in a state (R66). -/
def State.entriesIn (s : State) (x : EntryState) : Nat := countWhere (fun e => e.state = x) s.dtt

/-- The lane states as a number: bit m is 1 when lane m is UP (R198). -/
def State.lanesUp (s : State) : Nat :=
  ((List.finRange 15).map fun m : LaneId => if s.lanes[m].state = .up then 2 ^ m.val else 0).sum

/-- The six data words of GET STATUS (R180, R198). -/
def State.statusWords (s : State) : List Word :=
  [pack [⟨31, 16, s.generation.toNat⟩, ⟨8, 8, bit (s.gate = .opened)⟩, ⟨3, 0, (s.manager.map Fin.val).getD 15⟩],
    pack [⟨4, 0, s.entriesIn .free⟩, ⟨9, 5, s.entriesIn .queued⟩, ⟨14, 10, s.entriesIn .issued⟩,
      ⟨19, 15, s.entriesIn .partly⟩, ⟨24, 20, s.entriesIn .ready⟩, ⟨29, 25, s.entriesIn .abandoned⟩],
    pack [⟨31, 31, bit s.log.alertOutstanding⟩, ⟨21, 20, s.slots[0].state.code⟩, ⟨23, 22, s.slots[1].state.code⟩,
      ⟨25, 24, s.slots[2].state.code⟩, ⟨27, 26, s.slots[3].state.code⟩, ⟨19, 18, s.engines.b.state.code⟩,
      ⟨17, 16, s.engines.a.state.code⟩, ⟨13, 8, s.queues.b.entries.length⟩, ⟨5, 0, s.queues.a.entries.length⟩],
    pack [⟨22, 16, s.log.records.length⟩, ⟨15, 8, s.engines.b.failures⟩, ⟨7, 0, s.engines.a.failures⟩],
    pack [⟨31, 16, s.log.lost⟩, ⟨14, 0, s.lanesUp⟩],
    s.timebase]

end Sys2Proof.Machine
end

