-- ==== Sys2Proof/Machine/Window.lean ====
section
/-! DEFINITION. The window table (chapter 1): lookup, translation, and the part of COMMIT that is the table's own. -/

namespace Sys2Proof.Machine

/-- The address is in [base, base+size) of the record (R8, R27). -/
def WindowRecord.spans (w : WindowRecord) (a : Word) : Bool := w.base.toNat ≤ a.toNat && a.toNat < w.windowEnd

/-- A valid record whose range contains the address (R8). -/
def WindowRecord.contains (w : WindowRecord) (a : Word) : Bool := w.valid && w.spans a

/-- The lookup: the valid entry of lowest index whose range contains the address (R8). -/
def lookup (bank : Vector WindowRecord 24) (a : Word) : Option WindowIndex :=
  findFirst (fun w => w.contains a) bank

/-- The translation of a backplane address under a record (R10). -/
def WindowRecord.translate (w : WindowRecord) (a : Word) : SegAddr :=
  BitVec.ofNat 28 (w.targetBase.toNat + (a.toNat - w.base.toNat))

/-- The lane is a member of the window's read lanes (R1). -/
def WindowRecord.mayRead (w : WindowRecord) (n : LaneId) : Bool := w.readLanes.getLsbD n.val

/-- The lane is a member of the window's write lanes (R1). -/
def WindowRecord.mayWrite (w : WindowRecord) (n : LaneId) : Bool := w.writeLanes.getLsbD n.val

/-- The STAGED bank becomes LIVE and the generation advances (R4, R11). -/
def commitBanks (s : State) : State := { s with live := s.staged, generation := s.generation + 1 }

end Sys2Proof.Machine
end

