-- ==== Sys2Proof/Machine/Queue.lean ====
section
/-! DEFINITION. The posted write queues (chapter 4): acceptance and merging, retirement, discards, and what the end of
a cycle does to the head. -/

namespace Sys2Proof.Machine

/-! ### Acceptance (R72 to R74) -/

/-- The first byte past an entry's or a write's words. -/
def endByte (a : SegAddr) (words : Nat) : Nat := a.toNat + 4 * words

/-- The entry holds 16 words, or its last word is the last word of its block (R73, R74, R77). -/
def QueueEntry.full (e : QueueEntry) : Bool :=
  e.words = Config.maxWords || blockOffset (endByte e.segAddr e.words) = 0

/-- The last word of n words from a lies in the block of b (R73). -/
def endsInBlockOf (a : SegAddr) (n : Nat) (b : SegAddr) : Bool :=
  (endByte a n - 4) / Config.blockBytes = b.toNat / Config.blockBytes

/-- The write joins this tail (R73). -/
def QueueEntry.merges (e : QueueEntry) (o : Owner) (k : WindowIndex) (mergeFlag : Bool) (a : SegAddr)
    (ws : List WriteWord) : Bool :=
  !e.closed && e.progress = 0 && e.owner = o && e.window = k && mergeFlag &&
    a.toNat = endByte e.segAddr e.words && endsInBlockOf a ws.length e.segAddr &&
    e.words + ws.length ≤ Config.maxWords

/-- The tail with the write's words behind its own, closed at once when that fills it (R73). -/
def QueueEntry.append (e : QueueEntry) (ws : List WriteWord) : QueueEntry :=
  let e' := { e with writeWords := e.writeWords ++ ws }
  if e'.full then e'.close else e'

/-- The new entry of R74, open until its close time unless one of the four conditions closes it at its creation. -/
def newQueueEntry (s : State) (o : Owner) (k : WindowIndex) (a : SegAddr) (ws : List WriteWord) (seq : Seq) :
    QueueEntry :=
  let e : QueueEntry :=
    { owner := o, window := k, segAddr := a, writeWords := ws, seq := seq,
      closeTime := some (s.after s.params.mergeWindow), progress := 0, backoff := 0 }
  if s.params.mergeWindow = 0 || !s.live[k].merge || e.full then e.close else e

/-- The queue with a new entry behind its tail, which is closed first; the counter takes the new number (R69, R74). -/
def PostedQueue.push (q : PostedQueue) (e : QueueEntry) : PostedQueue :=
  { q with entries := q.closeTail.entries ++ [e], counter := e.seq }

/-- The queue tests a handed-over write: merged into the open tail, refused when full (no state), or a new entry
(R72). -/
def acceptPosted (o : Owner) (k : WindowIndex) (a : SegAddr) (ws : List WriteWord) (s : State) : Option State :=
  let w := s.live[k]
  let q := s.queues.get w.segment
  if q.tail.any (fun e => e.merges o k w.merge a ws) then
    some (s.setQueue w.segment { q with entries := mapLast (fun e => e.append ws) q.entries })
  else if q.entries.length < Config.queueCapacity then
    some (s.setQueue w.segment (q.push (newQueueEntry s o k a ws (q.counter + 1))))
  else none

/-! ### Leaving the queue (R83 to R86) -/

/-- The head leaves: the retired mark takes its number, and every barrier that names it is met (R83, R84, R91). -/
def retireHead (g : Segment) (s : State) : State :=
  match (s.queues.get g).entries with
  | [] => s
  | e :: rest => meetBarriers g e.seq (s.setQueue g { s.queues.get g with entries := rest, retired := e.seq })

/-- The POSTED-WRITE-FAILED record of an entry (R84, R153). -/
def postedWriteFailed (g : Segment) (e : QueueEntry) (f : FailReason) : RecordBody :=
  { kind := .postedWriteFailed, lane := some e.owner.lane, segment := some g, segAddr := some e.segAddr,
    words := some e.words, cause := some (.failed f) }

/-- The WRITES-DROPPED record of a queue (R85, R86, R153). -/
def writesDropped (g : Segment) (count : Nat) (c : Cause) : RecordBody :=
  { kind := .writesDropped, segment := some g, cause := some c, count := some count }

/-- The queue discards every entry from head to tail: each meets the barriers that name it and counts toward its
owner, the retired mark becomes the counter, and one record follows when there was an entry (R85, R86). -/
def discardQueue (g : Segment) (c : Cause) (s : State) : State × List RecordBody :=
  let q := s.queues.get g
  let s' := q.entries.foldl (fun t e => countFailedWrite e.owner (meetBarriers g e.seq t)) s
  (s'.setQueue g { q with entries := [], retired := q.counter },
    if q.entries.isEmpty then [] else [writesDropped g q.entries.length c])

/-- The head retires failed: it leaves, its record is handed and its owner's count rises (R84). -/
def retireFailed (g : Segment) (e : QueueEntry) (f : FailReason) (s : State) : State × List RecordBody :=
  (countFailedWrite e.owner (retireHead g s), [postedWriteFailed g e f])

/-- The head replaced. -/
def setHead (g : Segment) (e : QueueEntry) (s : State) : State :=
  s.setQueue g { s.queues.get g with entries := e :: (s.queues.get g).entries.tail }

/-- The end of a cycle of the entry numbered seq (R81). An entry that is no longer the head was discarded while its
cycle ran, and the queue takes no action (R86). -/
def queueCycleEnd (g : Segment) (seq : Seq) (r : CycleResult) (s : State) : State × List RecordBody :=
  match (s.queues.get g).entries.head? with
  | none => (s, [])
  | some e =>
    if e.seq = seq then
      match r.outcome with
      | .done => (retireHead g s, [])
      | .stop => (setHead g { e with progress := e.progress + r.done, backoff := 0 } s, [])
      | .backoff =>
        if e.backoff + 1 < Config.backoffLimit then (setHead g { e with backoff := e.backoff + 1 } s, [])
        else retireFailed g e .targetBusy s
      | .noTarget => retireFailed g e .noTarget s
      | .timeout => retireFailed g e .timeout s
      | .fault => retireFailed g e .targetFault s
      | .parity => retireFailed g e .parity s
    else (s, [])

end Sys2Proof.Machine
end

