-- ==== Sys2Proof/Machine/Deferred.lean ====
section
/-! DEFINITION. The Deferred Transaction Table (chapter 3): matching, creation, the outcome of a cycle, release and
discard. -/

namespace Sys2Proof.Machine

/-! ### Matching and creation -/

/-- The entry is in one of the four states that a repeat may match (R28, R41). -/
def DttEntry.matchable (e : DttEntry) : Bool :=
  e.state = .queued || e.state = .issued || e.state = .partly || e.state = .ready

/-- The request is the entry's: owner, kind, address, word count and, for a write, masks and data (R28). -/
def DttEntry.sameRequest (o : Owner) (kind : EntryKind) (address : Word) (words : Nat) (ws : List WriteWord)
    (e : DttEntry) : Bool :=
  e.owner = o && e.kind = kind && e.address = address && e.words = words && (kind = .read || e.writeWords = ws)

/-- The DTT match (R28). -/
def matchEntry (o : Owner) (kind : EntryKind) (address : Word) (words : Nat) (ws : List WriteWord) (s : State) :
    Option EntryIndex :=
  findFirst (fun e => e.matchable && e.sameRequest o kind address words ws) s.dtt

/-- The entries that count toward an owner's quota (R41, R42). -/
def quotaCount (o : Owner) (s : State) : Nat := countWhere (fun e => e.state ≠ .free && e.owner = o) s.dtt

/-- The entry as it is created (R44, R45). -/
def newEntry (o : Owner) (kind : EntryKind) (address : Word) (words : Nat) (ws : List WriteWord) (k : WindowIndex)
    (s : State) : DttEntry where
  state := .queued
  owner := o
  kind := kind
  address := address
  words := words
  writeWords := ws
  streamFlag := kind = .read && s.live[k].readMode = .stream
  window := k
  segment := s.live[k].segment
  segAddr := s.live[k].translate address
  creation := s.creationCounter
  barrier := (s.queues.get s.live[k].segment).tailBarrier
  progress := 0
  backoff := 0
  outcome := .success
  readData := []
  expiry := 0

/-- Creation (R42): in the FREE entry of lowest index, when there is one and the owner is below QUOTA. The tail of the
segment's queue is closed in the same event (R45) and the creation counter advances (R46). -/
def createEntry (o : Owner) (kind : EntryKind) (address : Word) (words : Nat) (ws : List WriteWord) (k : WindowIndex)
    (s : State) : Option State :=
  match findFirst (fun e => e.state = .free) s.dtt with
  | none => none
  | some i =>
    if quotaCount o s < s.params.quota then
      some { (closeTail s.live[k].segment s).setEntry i (newEntry o kind address words ws k s) with
        creationCounter := s.creationCounter + 1 }
    else none

/-! ### Age (R46) -/

/-- How far an entry's creation number lies behind the counter: the greater, the older (R46). -/
def entryAge (s : State) (i : EntryIndex) : Nat := (s.creationCounter - s.dtt[i].creation).toNat

/-! ### Outcomes (R52 to R56) -/

/-- The entry made READY with an outcome; a failure holds no read data, and the discard timer starts (R40, R55,
R56). -/
def DttEntry.makeReady (s : State) (o : EntryOutcome) (e : DttEntry) : DttEntry :=
  { e with
    state := .ready
    outcome := o
    readData := if o = .success then e.readData else []
    expiry := s.after s.params.discardTime }

/-- The end of the cycle of an ISSUED entry (R52, R53). -/
def DttEntry.endIssued (s : State) (r : CycleResult) (e : DttEntry) : DttEntry :=
  match r.outcome with
  | .done => { e with readData := e.readData ++ r.data }.makeReady s .success
  | .stop =>
    { e with
      state := .partly
      progress := e.progress + r.done
      backoff := 0
      readData := e.readData ++ r.data }
  | .backoff =>
    if e.backoff + 1 < Config.backoffLimit then { e with state := .partly, backoff := e.backoff + 1 }
    else { e with backoff := e.backoff + 1 }.makeReady s (.failed .targetBusy)
  | .noTarget => e.makeReady s (.failed .noTarget)
  | .timeout => e.makeReady s (.failed .timeout)
  | .fault => e.makeReady s (.failed .targetFault)
  | .parity => e.makeReady s (.failed .parity)

/-- The WORK-ABANDONED record, when the entry is an ACKED-WRITE with at least one word done; `reported` is its
words-done field (R64). -/
def DttEntry.workAbandoned (e : DttEntry) (done reported : Nat) : List RecordBody :=
  if e.kind = .ackedWrite ∧ 1 ≤ done then
    [{ kind := .workAbandoned, lane := some e.owner.lane, segment := some e.segment, segAddr := some e.segAddr,
       words := some reported }]
  else []

/-- The end of the cycle of an entry (R52, R63). -/
def entryCycleEnd (i : EntryIndex) (r : CycleResult) (s : State) : State × List RecordBody :=
  let e := s.dtt[i]
  match e.state with
  | .issued => (s.setEntry i (e.endIssued s r), [])
  | .abandoned =>
    (s.setEntry i DttEntry.cleared, e.workAbandoned (e.progress + r.done) (min (e.progress + r.done) e.words))
  | .free | .queued | .partly | .ready => (s, [])

/-- A segment fault: its QUEUED and PARTIAL entries become READY, SEGMENT-DOWN (R60). -/
def faultEntries (g : Segment) (s : State) : State :=
  { s with
    dtt := mapAll (fun e => if e.segment = g ∧ (e.state = .queued ∨ e.state = .partly) then
      e.makeReady s (.failed .segmentDown) else e) s.dtt }

/-! ### Release (R62) and COMMIT (R12) -/

/-- An entry released from its owner (R62). -/
def DttEntry.release (e : DttEntry) : DttEntry :=
  match e.state with
  | .free => e
  | .queued => DttEntry.cleared
  | .partly => DttEntry.cleared
  | .ready => DttEntry.cleared
  | .issued => { e with state := .abandoned }
  | .abandoned => e

/-- The record of a release: of a PARTIAL entry, with its progress (R62, R64). -/
def DttEntry.releaseRecord (e : DttEntry) : List RecordBody :=
  if e.state = .partly then e.workAbandoned e.progress e.progress else []

/-- Every entry that passes a test released, in index order, with the records due (R62). -/
def releaseEntries (p : DttEntry → Bool) (s : State) : State × List RecordBody :=
  ({ s with dtt := mapAll (fun e => if p e then e.release else e) s.dtt },
    s.dtt.toList.flatMap fun e => if p e then e.releaseRecord else [])

/-- An entry at a COMMIT: FREE when it was QUEUED, else without its stream flag (R12). -/
def DttEntry.commit (e : DttEntry) : DttEntry :=
  match e.state with
  | .free => e
  | .queued => DttEntry.cleared
  | .issued | .partly | .ready | .abandoned => { e with streamFlag := false }

/-! ### Discard (R57) -/

/-- The COMPLETION-DISCARDED record of an entry (R57, R153). -/
def DttEntry.completionDiscarded (e : DttEntry) : RecordBody :=
  { kind := .completionDiscarded, lane := some e.owner.lane, segment := some e.segment, segAddr := some e.segAddr,
    words := some e.words, entryKind := some e.kind,
    cause := some (match e.outcome with
      | .success => .success
      | .failed f => .failed f) }

/-- The discard expiry of an entry, taken when the timebase stands at the expiry time of an entry that is still READY
(R57, R179). -/
def discardEvent (i : EntryIndex) (s : State) : State :=
  if s.dtt[i].state = .ready ∧ s.dtt[i].expiry = s.timebase then
    recordEvent [s.dtt[i].completionDiscarded] (s.setEntry i DttEntry.cleared)
  else s

end Sys2Proof.Machine
end

