-- ==== Sys2Proof/Machine/Stream.lean ====
section
/-! DEFINITION. Stream read-ahead (chapter 6): allocation, refill, serving, the outcome of a refill and the idle
timer. Drops stand in Machine/Ops.lean. -/

namespace Sys2Proof.Machine

/-- The lane's own stream slot: HOLDING or FILLING, of the lane under its current epoch (R26, R109). -/
def ownSlot (o : Owner) (s : State) : Option SlotIndex := findFirst (fun x => x.live && x.owner = o) s.slots

/-! ### Refill (R113) -/

/-- The address behind the held words: where a refill would start. -/
def StreamSlot.refillAddress (x : StreamSlot) : Nat := x.nextAddr.toNat + 4 * x.held.length

/-- The slot requests a refill: HOLDING, fewer than 16 words held, and words of the window left to fetch (R113). -/
def StreamSlot.wantsRefill (x : StreamSlot) : Bool :=
  x.state = .holding && x.held.length < Config.refillBelow && x.refillAddress < x.windowEnd

/-- The words of the refill: from its address to the end of that address's block, clipped to the window end (R113). -/
def StreamSlot.refillWords (x : StreamSlot) : Nat :=
  min ((Config.blockBytes - blockOffset x.refillAddress) / 4) ((x.windowEnd - x.refillAddress) / 4)

/-- The slot FILLING with the pending refill that R113 writes. -/
def StreamSlot.withRefill (x : StreamSlot) (barrier : Barrier) : StreamSlot :=
  { x with
    state := .filling
    refill := some
      { start := x.nextSegAddr + BitVec.ofNat 28 (4 * x.held.length)
        words := x.refillWords
        barrier := barrier
        progress := 0
        backoff := 0
        inCycle := false } }

/-- R113 applied to a slot: a refill requested when it is due. It takes its barrier, closes the tail of the segment's
queue and goes behind every refill already pending on the segment. -/
def requestRefill (i : SlotIndex) (s : State) : State :=
  let x := s.slots[i]
  if x.wantsRefill then
    let t := (closeTail x.segment s).setSlot i (x.withRefill (s.queues.get x.segment).tailBarrier)
    { t with refillOrder := t.refillOrder.set x.segment (t.refillOrder.get x.segment ++ [i]) }
  else s

/-! ### Allocation (R110 to R112) -/

/-- Allocation steps 3 to 5: the EMPTY slot of lowest index, else the HOLDING slot of another owner with the earliest
last use, else none (R111). The earliest is the one furthest behind the timebase (notes/assumptions/6.md). -/
def chooseSlot (o : Owner) (s : State) : Option SlotIndex :=
  match findFirst (fun x => x.state = .empty) s.slots with
  | some i => some i
  | none =>
    pickMax (fun i => (s.timebase - s.slots[i].lastUse).toNat)
      ((List.finRange 4).filter fun i => s.slots[i].state = .holding && s.slots[i].owner ≠ o)

/-- The slot as allocation writes it (R112). -/
def newSlot (o : Owner) (k : WindowIndex) (g : Segment) (next : Word) (s : State) : StreamSlot where
  state := .holding
  owner := o
  window := k
  segment := g
  nextAddr := next
  nextSegAddr := s.live[k].translate next
  windowEnd := s.live[k].windowEnd
  held := []
  lastUse := s.timebase
  idleExpiry := s.after s.params.streamIdle
  refill := none

/-- The chosen slot written, and its first refill requested in the same event (R112). -/
def fillSlot (o : Owner) (k : WindowIndex) (g : Segment) (next : Word) (i : SlotIndex) (s : State) : State :=
  requestRefill i (s.setSlot i (newSlot o k g next s))

/-- Allocation steps 3 to 5 carried out (R111). -/
def takeSlot (o : Owner) (k : WindowIndex) (g : Segment) (next : Word) (s : State) : State :=
  match chooseSlot o s with
  | some i => fillSlot o k g next i s
  | none => s

/-- Allocation at the collection of a stream-flagged READ with SUCCESS (R110, R111): declined at the window end or on a
FAULTED segment; else the owner's own slot, unless its refill is in a cycle, which retires it; else steps 3 to 5. -/
def allocateSlot (o : Owner) (k : WindowIndex) (g : Segment) (address : Word) (words : Nat) (s : State) : State :=
  let next := address + BitVec.ofNat 32 (4 * words)
  if address.toNat + 4 * words = s.live[k].windowEnd ∨ (s.engines.get g).state = .faulted then s
  else
    match ownSlot o s with
    | some i => if s.slots[i].inCycle then takeSlot o k g next (dropSlot i s) else fillSlot o k g next i s
    | none => takeSlot o k g next s

/-! ### Serving (R117) -/

/-- The slot after w words have left its front (R117). -/
def StreamSlot.serve (x : StreamSlot) (w : Nat) (now idle : Time) : StreamSlot :=
  { x with
    held := x.held.drop w
    nextAddr := x.nextAddr + BitVec.ofNat 32 (4 * w)
    nextSegAddr := x.nextSegAddr + BitVec.ofNat 28 (4 * w)
    lastUse := now
    idleExpiry := idle }

/-- A READ of w words served from a slot (R117). A HOLDING slot that has reached the window end becomes EMPTY; another
HOLDING slot is tested for a refill; a FILLING slot stays FILLING. -/
def serveSlot (i : SlotIndex) (w : Nat) (s : State) : State :=
  let x := s.slots[i]
  let y := x.serve w s.timebase (s.after s.params.streamIdle)
  if x.state = .holding ∧ x.nextAddr.toNat + 4 * w = x.windowEnd ∧ y.held = [] then s.setSlot i StreamSlot.cleared
  else requestRefill i (s.setSlot i y)

/-! ### The end of a refill cycle (R115, R116, R123) -/

/-- The STREAM-REFILL-FAILED record (R116, R153). -/
def StreamSlot.refillFailed (x : StreamSlot) (f : FailReason) : RecordBody :=
  { kind := .streamRefillFailed, lane := some x.owner.lane, segment := some x.segment,
    segAddr := x.refill.map PendingRefill.start, cause := some (.failed f) }

/-- The refill failed: the slot becomes EMPTY and its record is handed (R116). -/
def failRefill (i : SlotIndex) (f : FailReason) (s : State) : State × List RecordBody :=
  (s.setSlot i StreamSlot.cleared, [s.slots[i].refillFailed f])

/-- The end of a refill cycle of a FILLING slot whose pending refill is p (R115). -/
def fillingCycleEnd (i : SlotIndex) (p : PendingRefill) (r : CycleResult) (s : State) : State × List RecordBody :=
  let x := s.slots[i]
  match r.outcome with
  | .done => (requestRefill i (s.setSlot i { x with state := .holding, held := x.held ++ r.data, refill := none }), [])
  | .stop =>
    (s.setSlot i { x with
      held := x.held ++ r.data
      refill := some { p with progress := p.progress + r.done, backoff := 0, inCycle := false } }, [])
  | .backoff =>
    if p.backoff + 1 < Config.backoffLimit then
      (s.setSlot i { x with refill := some { p with backoff := p.backoff + 1, inCycle := false } }, [])
    else failRefill i .targetBusy s
  | .noTarget => failRefill i .noTarget s
  | .timeout => failRefill i .timeout s
  | .fault => failRefill i .targetFault s
  | .parity => failRefill i .parity s

/-- The end of a refill cycle (R115); of a RETIRING slot, it becomes EMPTY and its words are discarded (R123). -/
def slotCycleEnd (i : SlotIndex) (r : CycleResult) (s : State) : State × List RecordBody :=
  match s.slots[i].state, s.slots[i].refill with
  | .filling, some p => fillingCycleEnd i p r s
  | .filling, none => (s, [])
  | .retiring, _ => (s.setSlot i StreamSlot.cleared, [])
  | .empty, _ => (s, [])
  | .holding, _ => (s, [])

/-! ### Idle timer (R120) -/

/-- The idle expiry of a slot, taken when the timebase stands at it and the slot is HOLDING or FILLING (R120). -/
def idleEvent (i : SlotIndex) (s : State) : State :=
  if s.slots[i].live ∧ s.slots[i].idleExpiry = s.timebase then dropSlot i s else s

end Sys2Proof.Machine
end

