-- ==== Sys2Proof/Machine/FenceUnit.lean ====
section
/-! DEFINITION. The fence unit (chapter 5): fence records and the drain record. -/

namespace Sys2Proof.Machine

/-- The queue holds an entry of the owner (R94). -/
def PostedQueue.outstanding (q : PostedQueue) (o : Owner) : Bool := q.entries.any fun e => e.owner = o

/-- The record a FENCE makes: on each queue the owner's newest entry, or none (R94). -/
def fenceRecord (o : Owner) (s : State) : BarrierPair :=
  { a := s.queues.a.ownerBarrier o, b := s.queues.b.ownerBarrier o }

/-- The record a DRAIN makes: on each queue the tail, or none (R100). -/
def drainRecord (s : State) : BarrierPair := { a := s.queues.a.tailBarrier, b := s.queues.b.tailBarrier }

/-- Every fence record and the drain record freed (R105). -/
def freeRecords (s : State) : State := { s with fences := Vector.replicate 15 none, drain := none }

/-- The lane's fence record freed and its count set to 0 (R96, R103). -/
def clearFence (n : LaneId) (s : State) : State := (s.setFence n none).setFailedWrites n 0

end Sys2Proof.Machine
end

