-- ==== Sys2Proof/Machine/Engine.lean ====
section
/-! DEFINITION. The segment engines (chapter 7): candidates, the work arbiter, the grant, the phases of a cycle, the
end of a cycle, the fault, and the meanings of GRANT, TARGET_CLAIM, WORD_PASS, CYCLE_END, CLAIM_LIMIT_EXPIRY and
HOLD_LIMIT_EXPIRY. A command whose event cannot be taken in the present state changes nothing
(notes/assumptions/1.md). -/

namespace Sys2Proof.Machine

/-- The engine of a segment. -/
def State.engine (s : State) (g : Segment) : Engine := s.engines.get g

/-- The engine is IDLE: it has no item in progress (R134). -/
def Engine.idle (e : Engine) : Bool := e.cycle.isNone

/-! ### Candidates (7.4) -/

/-- The engine's cycle is for the queue entry numbered seq. -/
def Engine.carries (e : Engine) (seq : Seq) : Bool :=
  match e.cycle with
  | some c => c.item = .queueEntry seq
  | none => false

/-- Candidate W: the head, when it is closed and no cycle for it is in progress (R79). -/
def candidateW (g : Segment) (s : State) : Option QueueEntry :=
  match (s.queues.get g).entries.head? with
  | some e => if e.closed && !(s.engine g).carries e.seq then some e else none
  | none => none

/-- The entry is ready for a grant on the segment: QUEUED with its barrier met, or PARTIAL (R50). -/
def DttEntry.grantable (e : DttEntry) (g : Segment) : Bool :=
  e.segment = g && (e.state = .queued && e.barrier.met || e.state = .partly)

/-- Candidate F: the oldest entry of the segment that is ready for a grant (R50). -/
def candidateF (g : Segment) (s : State) : Option EntryIndex :=
  pickMax (entryAge s) ((List.finRange 16).filter fun i => s.dtt[i].grantable g)

/-- The slot's refill may be granted: FILLING, not in a cycle, its barrier met (R114). -/
def StreamSlot.grantable (x : StreamSlot) : Bool :=
  match x.refill with
  | some r => x.state = .filling && !r.inCycle && r.barrier.met
  | none => false

/-- Candidate R: of the refills that may be granted on the segment, the one requested first (R114). -/
def candidateR (g : Segment) (s : State) : Option SlotIndex :=
  (s.refillOrder.get g).find? fun i => s.slots[i].grantable

/-- The work arbiter's choice (R136). -/
def arbiter (g : Segment) (s : State) : Option WorkItem :=
  match candidateW g s, candidateF g s with
  | some e, some i =>
    if s.params.highWater ≤ (s.queues.get g).entries.length then some (.queueEntry e.seq)
    else if (s.engine g).lastWF = .w then some (.dttEntry i) else some (.queueEntry e.seq)
  | some e, none => some (.queueEntry e.seq)
  | none, some i => some (.dttEntry i)
  | none, none => (candidateR g s).map WorkItem.streamSlot

/-! ### The grant (R137) -/

/-- The engine BUSY with a cycle. -/
def startCycle (g : Segment) (c : Cycle) (s : State) : State := s.setEngine g { s.engine g with cycle := some c }

/-- The last W-or-F grant set (R136). -/
def markWF (g : Segment) (x : WorF) (s : State) : State := s.setEngine g { s.engine g with lastWF := x }

/-- The cycle for the remainder of a queue head (R80). -/
def QueueEntry.cycle (e : QueueEntry) (s : State) (g : Segment) : Cycle where
  item := .queueEntry e.seq
  kind := .write
  segAddr := e.segAddr + BitVec.ofNat 28 (4 * e.progress)
  words := e.words - e.progress
  writeWords := e.writeWords.drop e.progress
  backoffAtGrant := e.backoff
  holdLimit := s.params.holdLimit g
  phase := .claim s.timebase
  passed := 0
  readData := []
  badWord := false

/-- The cycle for the remainder of a DTT entry (R51). -/
def DttEntry.cycle (e : DttEntry) (i : EntryIndex) (s : State) (g : Segment) : Cycle where
  item := .dttEntry i
  kind := match e.kind with
    | .read => .read
    | .ackedWrite => .write
  segAddr := e.segAddr + BitVec.ofNat 28 (4 * e.progress)
  words := e.words - e.progress
  writeWords := e.writeWords.drop e.progress
  backoffAtGrant := e.backoff
  holdLimit := s.params.holdLimit g
  phase := .claim s.timebase
  passed := 0
  readData := []
  badWord := false

/-- The cycle for the remainder of a refill (R114). -/
def PendingRefill.cycle (r : PendingRefill) (i : SlotIndex) (s : State) (g : Segment) : Cycle where
  item := .streamSlot i
  kind := .read
  segAddr := r.start + BitVec.ofNat 28 (4 * r.progress)
  words := r.words - r.progress
  writeWords := []
  backoffAtGrant := r.backoff
  holdLimit := s.params.holdLimit g
  phase := .claim s.timebase
  passed := 0
  readData := []
  badWord := false

/-- The grant of an item: the owner marks it as on the bus and the engine drives its select (R137). -/
def startItem (g : Segment) (item : WorkItem) (s : State) : State :=
  match item with
  | .queueEntry _ =>
    match (s.queues.get g).entries.head? with
    | some e => startCycle g (e.cycle s g) (markWF g .w s)
    | none => s
  | .dttEntry i =>
    startCycle g (s.dtt[i].cycle i s g) (markWF g .f (s.setEntry i { s.dtt[i] with state := .issued }))
  | .streamSlot i =>
    match s.slots[i].refill with
    | some r =>
      startCycle g (r.cycle i s g) (s.setSlot i { s.slots[i] with refill := some { r with inCycle := true } })
    | none => s

/-- The grant event (R135): taken when the engine is IDLE, the segment ENABLED and a candidate ready. -/
def grantEvent (g : Segment) (s : State) : State :=
  if (s.engine g).idle ∧ (s.engine g).state = .enabled then
    match arbiter g s with
    | some item => startItem g item s
    | none => s
  else s

/-! ### The phases of a cycle (R127 to R132) -/

/-- Whole µs from one timebase value to the present one, modulo 2^32. -/
def State.since (s : State) (t : Time) : Nat := (s.timebase - t).toNat

/-- The claim event (R128): a select waiting for its claim, the claim limit not passed. -/
def claimEvent (g : Segment) (s : State) : State :=
  match (s.engine g).cycle with
  | some c =>
    match c.phase with
    | .claim t => if s.since t ≤ Config.claimLimit then startCycle g { c with phase := .data s.timebase } s else s
    | .data _ => s
  | none => s

/-- The cycle is at a boundary of its data phase and its hold does not exceed the hold limit (R129). -/
def Cycle.atBoundary (c : Cycle) (s : State) : Bool :=
  match c.phase with
  | .claim _ => false
  | .data t => s.since t ≤ c.holdLimit

/-- The cycle after one more word: in a READ cycle the word is taken and its parity checked; the next boundary is
reached now (R129, R132). -/
def Cycle.passWord (c : Cycle) (w : Word) (parity : BitVec 4) (now : Time) : Cycle :=
  match c.kind with
  | .read =>
    { c with
      passed := c.passed + 1
      phase := .data now
      readData := c.readData ++ [w]
      badWord := c.badWord || parityError w parity }
  | .write => { c with passed := c.passed + 1, phase := .data now }

/-- The word event (R129). No word passes at the boundary after word n (R130). -/
def wordEvent (g : Segment) (w : Word) (parity : BitVec 4) (s : State) : State :=
  match (s.engine g).cycle with
  | some c => if c.atBoundary s ∧ c.passed < c.words then startCycle g (c.passWord w parity s.timebase) s else s
  | none => s

/-! ### The end of a cycle (R138 to R144) -/

/-- Step 1 of R138: the owner's handling (R139). -/
def ownerCycleEnd (g : Segment) (item : WorkItem) (r : CycleResult) (s : State) : State × List RecordBody :=
  match item with
  | .queueEntry seq => queueCycleEnd g seq r s
  | .dttEntry i => entryCycleEnd i r s
  | .streamSlot i => slotCycleEnd i r s

/-- The SEGMENT-FAULTED record (R144, R153). -/
def segmentFaulted (g : Segment) (f : FailReason) (count : Nat) : RecordBody :=
  { kind := .segmentFaulted, segment := some g, cause := some (.failed f), count := some count }

/-- The segment becomes FAULTED: the queue discards, the waiting entries become READY, the slots are dropped, and the
records are handed in that order (R144). -/
def faultSegment (g : Segment) (f : FailReason) (s : State) : State × List RecordBody :=
  let d := discardQueue g .segmentFault s
  let t := dropSlots (fun x => x.segment = g) (faultEntries g d.1)
  (t.setEngine g { t.engine g with state := .faulted }, d.2 ++ [segmentFaulted g f (s.engine g).failures])

/-- Step 2 of R138: the consecutive-failure count (R141). -/
def countOutcome (g : Segment) (c : Cycle) (o : CycleOutcome) (s : State) : State :=
  s.setEngine g { s.engine g with failures := c.nextFailures o (s.engine g).failures }

/-- Step 3 of R138: the fault test and the fault (R143, R144). -/
def faultTest (g : Segment) (c : Cycle) (o : CycleOutcome) (s : State) : State × List RecordBody :=
  match faultCause (s.engine g).state (c.countedFailure o) (s.engine g).failures (s.params.faultThreshold g) with
  | some f => faultSegment g f s
  | none => (s, [])

/-- Step 4 of R138: the item in progress is removed and the engine is IDLE. -/
def engineIdle (g : Segment) (s : State) : State := s.setEngine g { s.engine g with cycle := none }

/-- The end of a cycle with an ending, all four steps in one event, and then the records and the ALERT trigger (R138,
R156, R159). -/
def endCycle (g : Segment) (c : Cycle) (e : Ending) (s : State) : State :=
  let r := c.result e
  let step1 := ownerCycleEnd g c.item r s
  let step3 := faultTest g c r.outcome (countOutcome g c r.outcome step1.1)
  recordEvent (step1.2 ++ step3.2) (engineIdle g step3.1)

/-- The target's ending taken (R130, R138): at a boundary of the data phase, within the hold limit. -/
def cycleEndEvent (g : Segment) (x : TargetEnding) (s : State) : State :=
  match (s.engine g).cycle with
  | some c => if c.atBoundary s then endCycle g c (endingAt c.passed c.words x) s else s
  | none => s

/-- The claim limit has run out (R128; notes/assumptions/3.md). -/
def Cycle.claimOverdue (c : Cycle) (s : State) : Bool :=
  match c.phase with
  | .claim t => Config.claimLimit ≤ s.since t
  | .data _ => false

/-- The hold exceeds the hold limit (R129; notes/assumptions/3.md). -/
def Cycle.holdOverdue (c : Cycle) (s : State) : Bool :=
  match c.phase with
  | .claim _ => false
  | .data t => c.holdLimit < s.since t

/-- No target has claimed when the claim limit runs out: the cycle ends NO-TARGET (R128). -/
def claimLimitEvent (g : Segment) (s : State) : State :=
  match (s.engine g).cycle with
  | some c => if c.claimOverdue s then endCycle g c .noTarget s else s
  | none => s

/-- A hold exceeds the hold limit: the cycle ends TIMEOUT (R129). -/
def holdLimitEvent (g : Segment) (s : State) : State :=
  match (s.engine g).cycle with
  | some c => if c.holdOverdue s then endCycle g c .timeout s else s
  | none => s

/-! ### The meanings -/

/-- GRANT (R135 to R137). -/
def execGrant (g : Segment) (s : State) : Host.Outcome State Fault Refusal := .next (grantEvent g s)

/-- TARGET_CLAIM (R128). -/
def execTargetClaim (g : Segment) (s : State) : Host.Outcome State Fault Refusal := .next (claimEvent g s)

/-- WORD_PASS (R129, R131, R132). -/
def execWordPass (g : Segment) (w : Word) (parity : BitVec 4) (s : State) : Host.Outcome State Fault Refusal :=
  .next (wordEvent g w parity s)

/-- CYCLE_END (R130, R138). -/
def execCycleEnd (g : Segment) (x : TargetEnding) (s : State) : Host.Outcome State Fault Refusal :=
  .next (cycleEndEvent g x s)

/-- CLAIM_LIMIT_EXPIRY (R128). -/
def execClaimLimitExpiry (g : Segment) (s : State) : Host.Outcome State Fault Refusal := .next (claimLimitEvent g s)

/-- HOLD_LIMIT_EXPIRY (R129). -/
def execHoldLimitExpiry (g : Segment) (s : State) : Host.Outcome State Fault Refusal := .next (holdLimitEvent g s)

end Sys2Proof.Machine
end

