-- ==== Sys2Proof/Machine/Intake.lean ====
section
/-! DEFINITION. The intake (chapter 2): the arbiter, the taking of a parcel and its response, the checks, and the
meanings of MALFORMED_PARCEL, READ, WRITE and FENCE. -/

namespace Sys2Proof.Machine

/-! ### The arbiter (R17) -/

/-- The responses a transmit buffer holds. An ALERT does not count (R17). -/
def Lane.responses (l : Lane) : Nat := l.tx.countP TxParcel.isResponse

/-- A lane is eligible: UP, a parcel received, fewer than 2 responses waiting (R17). -/
def Lane.eligible (l : Lane) : Bool :=
  l.state = .up && !l.rx.isEmpty && l.responses < Config.responseLimit

/-- The lanes in the order in which the arbiter looks at them: from the one after the last granted, round to it
(R17). -/
def laneOrder (last : LaneId) : List LaneId := (List.finRange 15).map fun k => last + 1 + k

/-- A parcel about to be taken, with its lane. -/
structure Taking where
  lane : LaneId
  parcel : Parcel
deriving DecidableEq, Repr

/-- The parcel the intake takes next: the oldest of the first eligible lane (R17). -/
def nextTaking (s : State) : Option Taking :=
  match (laneOrder s.lastGranted).find? (fun n => s.lanes[n].eligible) with
  | none => none
  | some n =>
    match s.lanes[n].rx with
    | [] => none
    | p :: _ => some { lane := n, parcel := p }

/-! ### Taking and answering (R18) -/

/-- What a handler answers, and whether an ALERT trigger follows the response. -/
structure Reply where
  status : Status
  info : BitVec 16 := 0
  data : List Word := []
  trigger : Bool := false
deriving DecidableEq, Repr

/-- RETRY carries no reason, no info and no data (R20). -/
def retry : Reply := { status := .retry }

/-- COMPLETE with info 0 and no data. -/
def complete : Reply := { status := .complete }

/-- REFUSED with a reason, info 0 and no data (R22). -/
def refused (r : RefusedReason) : Reply := { status := .refused r }

/-- FAILED with a reason, info 0 and no data (R22). -/
def failed (r : FailReason) : Reply := { status := .failed r }

/-- The parcel leaves the receive buffer and its lane becomes the last granted (R17, R18). -/
def beginTaking (n : LaneId) (s : State) : State :=
  { s.modifyLane n (fun l => { l with rx := l.rx.tail }) with lastGranted := n }

/-- The response placed behind the lane's others, with the parcel's tag (R18, R19), and then the ALERT trigger when the
handling was one (R157, R161, R175, R193). -/
def respond (n : LaneId) (tag : BitVec 4) (r : Reply) (s : State) : State :=
  let t := s.modifyLane n fun l =>
    l.pushResponse { status := r.status, tag := tag, info := r.info, data := r.data }
  if r.trigger then alertTrigger t else t

/-- A handler of a request: the state after it and the answer. -/
abbrev Handler := State → State × Reply

/-- The taking of a parcel and its whole handling (R18). The event is taken when a lane is eligible and the row
handles the parcel that the arbiter finds; else nothing changes (notes/assumptions/1.md). -/
def takeParcel (handler : LaneId → Request → Option Handler) (s : State) : State :=
  match nextTaking s with
  | none => s
  | some t =>
    match handler t.lane (requestOf t.parcel) with
    | none => s
    | some h =>
      let out := h (beginTaking t.lane s)
      respond t.lane (tagOf t.parcel) out.2 out.1

/-! ### The checks of a READ or WRITE after the match (R30 to R32) -/

/-- READ or WRITE, as the window's sets and modes tell them apart. -/
inductive Access where
  | read
  | write
deriving DecidableEq, Repr

/-- The lane may use the window for the access (R30). -/
def WindowRecord.permits (w : WindowRecord) (n : LaneId) : Access → Bool
  | .read => w.mayRead n
  | .write => w.mayWrite n

/-- The refusal of the mode check, if the window's mode for the access is NONE (R31). -/
def WindowRecord.modeRefusal (w : WindowRecord) : Access → Option RefusedReason
  | .read => if w.readMode = .none then some .notReadable else none
  | .write => if w.writeMode = .none then some .notWritable else none

/-- The lookup, permission, mode and segment-state checks: the window, or the answer of the first check that answers
(R23, R30, R31, R32). -/
def checkWindow (n : LaneId) (x : Access) (address : Word) (s : State) : Except Reply WindowIndex :=
  match lookup s.live address with
  | none => .error (refused .noWindow)
  | some k =>
    if !s.live[k].permits n x then .error (refused .denied)
    else
      match s.live[k].modeRefusal x with
      | some r => .error (refused r)
      | none => if (s.engine s.live[k].segment).state = .faulted then .error (failed .segmentDown) else .ok k

/-! ### Collection (R29, R49) -/

/-- The answer from a READY entry (R29). -/
def DttEntry.answer (e : DttEntry) : Reply :=
  match e.outcome with
  | .failed f => failed f
  | .success =>
    match e.kind with
    | .read => { status := .complete, data := e.readData }
    | .ackedWrite => complete

/-- Collection of entry i by the owner o: the entry is freed, and a stream-flagged READ with SUCCESS has a slot
allocated (R29, R49). -/
def collect (o : Owner) (i : EntryIndex) (s : State) : State × Reply :=
  let e := s.dtt[i]
  let t := s.setEntry i DttEntry.cleared
  if e.kind = .read ∧ e.outcome = .success ∧ e.streamFlag then
    (allocateSlot o e.window e.segment e.address e.words t, e.answer)
  else (t, e.answer)

/-- The answer to a parcel that matches entry i: RETRY while it waits or is on the bus, collection when READY
(R28). -/
def repeatOf (o : Owner) (i : EntryIndex) (s : State) : State × Reply :=
  if s.dtt[i].state = .ready then collect o i s else (s, retry)

/-! ### READ -/

/-- A READ past the DTT match: the checks of R30 to R32, then creation; RETRY whether or not an entry is created
(R33). -/
def readNew (n : LaneId) (address : Word) (words : Nat) : Handler := fun s =>
  match checkWindow n .read address s with
  | .error r => (s, r)
  | .ok k => ((createEntry (s.currentOwner n) .read address words [] k s).getD s, retry)

/-- A READ past the stream check: the DTT match first (R28). -/
def readMatch (n : LaneId) (address : Word) (words : Nat) : Handler := fun s =>
  match matchEntry (s.currentOwner n) .read address words [] s with
  | some i => repeatOf (s.currentOwner n) i s
  | none => readNew n address words s

/-- A READ at the next address of the lane's own slot i (R26). -/
def readServed (i : SlotIndex) (words : Nat) : Handler := fun s =>
  if words ≤ s.slots[i].held.length then
    (serveSlot i words s, { status := .complete, data := s.slots[i].held.take words })
  else (s, retry)

/-- A READ past the gate: served from the lane's own slot, or passed on, after a drop when it lies elsewhere in the
slot's window (R26, R27). -/
def readStream (n : LaneId) (address : Word) (words : Nat) : Handler := fun s =>
  match ownSlot (s.currentOwner n) s with
  | none => readMatch n address words s
  | some i =>
    if address = s.slots[i].nextAddr then readServed i words s
    else if s.live[s.slots[i].window].spans address then readMatch n address words (dropSlot i s)
    else readMatch n address words s

/-- The gate check (R25). -/
def gated (h : Handler) : Handler := fun s =>
  match s.gate with
  | .closed => (s, retry)
  | .opened => h s

/-! ### WRITE -/

/-- The drop that follows the acceptance of a WRITE to window k (R35). -/
def dropWindow (k : WindowIndex) (s : State) : State := dropSlots (fun x => x.window = k) s

/-- A WRITE past the DTT match (R33 to R35). -/
def writeNew (n : LaneId) (address : Word) (ws : List WriteWord) : Handler := fun s =>
  match checkWindow n .write address s with
  | .error r => (s, r)
  | .ok k =>
    match s.live[k].writeMode with
    | .posted =>
      match acceptPosted (s.currentOwner n) k (s.live[k].translate address) ws s with
      | some t => (dropWindow k t, complete)
      | none => (s, retry)
    | .acked =>
      match createEntry (s.currentOwner n) .ackedWrite address ws.length ws k s with
      | some t => (dropWindow k t, retry)
      | none => (s, retry)
    | .none => (s, refused .notWritable)

/-- A WRITE past the gate (R28). -/
def writeMatch (n : LaneId) (address : Word) (ws : List WriteWord) : Handler := fun s =>
  match matchEntry (s.currentOwner n) .ackedWrite address ws.length ws s with
  | some i => repeatOf (s.currentOwner n) i s
  | none => writeNew n address ws s

/-! ### FENCE -/

/-- A FENCE answered COMPLETE with the lane's count, which is then set to 0; the record, if any, is freed (R94, R95). -/
def completeFence (n : LaneId) : Handler := fun s =>
  (clearFence n s, { status := .complete, info := BitVec.ofNat 16 s.failedWrites[n] })

/-- A FENCE past the gate (R94, R95). -/
def fenceAnswer (n : LaneId) : Handler := fun s =>
  match s.fences[n] with
  | some r => if r.allMet then completeFence n s else (s, retry)
  | none =>
    let o := s.currentOwner n
    if s.queues.a.outstanding o || s.queues.b.outstanding o then
      ((closeTails s).setFence n (some (fenceRecord o s)), retry)
    else completeFence n s

/-! ### The meanings -/

/-- MALFORMED_PARCEL (R24): REFUSED MALFORMED with the parcel's tag, and nothing else changes. -/
def execMalformedParcel (s : State) : Host.Outcome State Fault Refusal :=
  .next (takeParcel (fun _ r =>
    match r with
    | .malformed => some fun t => (t, refused .malformed)
    | _ => none) s)

/-- READ (R23). -/
def execRead (s : State) : Host.Outcome State Fault Refusal :=
  .next (takeParcel (fun n r =>
    match r with
    | .read address words => some (gated (readStream n address words))
    | _ => none) s)

/-- WRITE (R23). -/
def execWrite (s : State) : Host.Outcome State Fault Refusal :=
  .next (takeParcel (fun n r =>
    match r with
    | .write address ws => some (gated (writeMatch n address ws))
    | _ => none) s)

/-- FENCE (R94). -/
def execFence (s : State) : Host.Outcome State Fault Refusal :=
  .next (takeParcel (fun n r =>
    match r with
    | .fence => some (gated (fenceAnswer n))
    | _ => none) s)

end Sys2Proof.Machine
end

