-- ==== Sys2Proof/Machine/Management.lean ====
section
/-! DEFINITION. The management agent (chapter 9): the checks of R164, the role, the gate, the parameters, and the
meanings of the sixteen management operations. -/

namespace Sys2Proof.Machine

/-! ### The checks (R164) -/

/-- The argument words an operation takes (9.1). -/
def MgmtOp.argCount : MgmtOp → Nat
  | .stageWindow => 5
  | .readWindow => 2
  | .setParameter => 2
  | .getParameter => 1
  | .segmentEnable => 1
  | .segmentDisable => 1
  | .purgeLane => 1
  | .claim => 0
  | .release => 0
  | .openGate => 0
  | .closeGate => 0
  | .commit => 0
  | .getStatus => 0
  | .logTake => 0
  | .drain => 0
  | .brokerReset => 0

/-- The role check: the refusal, if there is one. A CLAIM refused names the lane that holds the role (R22, R164,
R168). -/
def roleRefusal (op : MgmtOp) (n : LaneId) (manager : Option LaneId) : Option Reply :=
  match op with
  | .getStatus => none
  | .claim =>
    match manager with
    | some m => if m = n then none else some { refused .notManager with info := BitVec.ofNat 16 m.val }
    | none => none
  | _ => if manager = some n then none else some (refused .notManager)

/-- The handling of a MGMT parcel of one operation: role, argument count, argument values, and then the operation,
which is none when an argument value is out of range (R164). -/
def manage (op : MgmtOp) (effect : LaneId → List Word → State → Option (State × Reply)) (n : LaneId)
    (args : List Word) : Handler := fun s =>
  match roleRefusal op n s.manager with
  | some r => (s, r)
  | none =>
    if args.length = op.argCount then
      match effect n args s with
      | some out => out
      | none => (s, refused .badArgument)
    else (s, refused .badArgument)

/-- The taking of a MGMT parcel of one operation (R37). -/
def takeMgmt (op : MgmtOp) (effect : LaneId → List Word → State → Option (State × Reply)) (s : State) : State :=
  takeParcel (fun n r =>
    match r with
    | .mgmt op' args => if op' = op then some (manage op effect n args) else none
    | _ => none) s

/-! ### The role (R165 to R169) -/

/-- CLAIM: the lane takes the role, or keeps it (R168). -/
def claimEffect (n : LaneId) (_args : List Word) (s : State) : Option (State × Reply) :=
  some ({ s with manager := some n }, complete)

/-- The end of the role (R166). -/
def endRole (s : State) : State :=
  { s with manager := none, log := { s.log with alertOutstanding := false }, drain := none }

/-- RELEASE (R169). -/
def releaseEffect (_n : LaneId) (_args : List Word) (s : State) : Option (State × Reply) := some (endRole s, complete)

/-! ### The gate (R172) -/

/-- OPEN (R172). -/
def openEffect (_n : LaneId) (_args : List Word) (s : State) : Option (State × Reply) :=
  some ({ s with gate := .opened }, complete)

/-- CLOSE (R172). -/
def closeEffect (_n : LaneId) (_args : List Word) (s : State) : Option (State × Reply) :=
  some ({ s with gate := .closed }, complete)

/-! ### The window table (R5, R7, R11 to R14) -/

/-- The index a word names, or none (R199). -/
def indexOf (n : Nat) (w : Word) : Option (Fin n) := if h : w.toNat < n then some ⟨w.toNat, h⟩ else none

/-- STAGE WINDOW (R5). -/
def stageWindowEffect (_n : LaneId) (args : List Word) (s : State) : Option (State × Reply) :=
  match args with
  | [i, w0, w1, w2, w3] =>
    match indexOf 24 i, WindowRecord.ofWords w0 w1 w2 w3 with
    | some k, some w => some ({ s with staged := s.staged.set k w }, complete)
    | _, _ => none
  | _ => none

/-- The bank a code names: 0 STAGED, 1 LIVE (R199). -/
def bankOf (s : State) : Nat → Option (Vector WindowRecord 24)
  | 0 => some s.staged
  | 1 => some s.live
  | _ => none

/-- READ WINDOW (R7). -/
def readWindowEffect (_n : LaneId) (args : List Word) (s : State) : Option (State × Reply) :=
  match args with
  | [i, b] =>
    match indexOf 24 i, bankOf s b.toNat with
    | some k, some bank => some (s, { status := .complete, data := bank[k].toWords })
    | _, _ => none
  | _ => none

/-- The effects of a COMMIT (R11 to R14): the banks and the generation, the DTT, the slots and the queues' tails. -/
def commitAll (s : State) : State :=
  closeTails (dropSlots (fun _ => true) { commitBanks s with dtt := mapAll DttEntry.commit s.dtt })

/-- COMMIT (R11). -/
def commitEffect (_n : LaneId) (_args : List Word) (s : State) : Option (State × Reply) :=
  some (commitAll s, { status := .complete, info := s.generation + 1 })

/-! ### Parameters (R174 to R176) -/

/-- The value of a parameter by its number (R174, R176). -/
def Parameters.value (p : Parameters) : Nat → Option Nat
  | 0 => some p.discardTime
  | 1 => some p.quota
  | 2 => some p.mergeWindow
  | 3 => some p.highWater
  | 4 => some p.streamIdle
  | 5 => some p.holdLimitA
  | 6 => some p.holdLimitB
  | 7 => some p.faultThresholdA
  | 8 => some p.faultThresholdB
  | 9 => some (bit p.alerts)
  | _ => none

/-- A parameter set by its number to a value in its range, or none (R174, R175). -/
def Parameters.update (p : Parameters) (number v : Nat) : Option Parameters :=
  match number with
  | 0 => if 64 ≤ v ∧ v ≤ 65535 then some { p with discardTime := v } else none
  | 1 => if 1 ≤ v ∧ v ≤ 16 then some { p with quota := v } else none
  | 2 => if v ≤ 255 then some { p with mergeWindow := v } else none
  | 3 => if 8 ≤ v ∧ v ≤ 31 then some { p with highWater := v } else none
  | 4 => if 16 ≤ v ∧ v ≤ 4095 then some { p with streamIdle := v } else none
  | 5 => if 1 ≤ v ∧ v ≤ 4095 then some { p with holdLimitA := v } else none
  | 6 => if 1 ≤ v ∧ v ≤ 4095 then some { p with holdLimitB := v } else none
  | 7 => if v ≤ 15 then some { p with faultThresholdA := v } else none
  | 8 => if v ≤ 15 then some { p with faultThresholdB := v } else none
  | 9 => if v ≤ 1 then some { p with alerts := v = 1 } else none
  | _ => none

/-- The parameters replaced. A change of ALERTS from on to off clears alert outstanding (R158, R175). -/
def setParams (p : Parameters) (s : State) : State :=
  { s with
    params := p
    log := if s.params.alerts && !p.alerts then { s.log with alertOutstanding := false } else s.log }

/-- SET PARAMETER (R175). A change of ALERTS from off to on is a trigger when the log holds a record (R159). -/
def setParameterEffect (_n : LaneId) (args : List Word) (s : State) : Option (State × Reply) :=
  match args with
  | [k, v] =>
    match s.params.update k.toNat v.toNat with
    | some p =>
      some (setParams p s,
        { complete with trigger := !s.params.alerts && p.alerts && !s.log.records.isEmpty })
    | none => none
  | _ => none

/-- GET PARAMETER (R176). -/
def getParameterEffect (_n : LaneId) (args : List Word) (s : State) : Option (State × Reply) :=
  match args with
  | [k] =>
    match s.params.value k.toNat with
    | some v => some (s, { status := .complete, data := [BitVec.ofNat 32 v] })
    | none => none
  | _ => none

/-! ### Status and log (R157, R180) -/

/-- GET STATUS (R180, R181). -/
def getStatusEffect (_n : LaneId) (_args : List Word) (s : State) : Option (State × Reply) :=
  some (s, { status := .complete, data := s.statusWords })

/-- LOG TAKE (R157). The trigger follows the response when records are left. -/
def logTakeEffect (_n : LaneId) (_args : List Word) (s : State) : Option (State × Reply) :=
  let left := s.log.records.drop Config.logTakeMax
  some ({ s with log := { s.log with records := left, lost := 0, alertOutstanding := false } },
    { status := .complete
      info := BitVec.ofNat 16 s.log.lost
      data := (s.log.records.take Config.logTakeMax).flatMap LogRecord.toWords
      trigger := !left.isEmpty })

/-! ### Segments (R146, R147) -/

/-- The segment an argument names (R199). -/
def segmentArg (args : List Word) : Option Segment :=
  match args with
  | [w] => segmentOfCode w.toNat
  | _ => none

/-- The engine after SEGMENT ENABLE: the count is set to 0 when the state changes (R147). -/
def Engine.enable (e : Engine) : Engine :=
  match e.state with
  | .enabled => e
  | .disabled | .faulted => { e with state := .enabled, failures := 0 }

/-- SEGMENT ENABLE (R147). -/
def segmentEnableEffect (_n : LaneId) (args : List Word) (s : State) : Option (State × Reply) :=
  match segmentArg args with
  | some g => some (s.setEngine g (s.engine g).enable, complete)
  | none => none

/-- SEGMENT DISABLE (R146). -/
def segmentDisableEffect (_n : LaneId) (args : List Word) (s : State) : Option (State × Reply) :=
  match segmentArg args with
  | some g => some (s.setEngine g { s.engine g with state := .disabled }, complete)
  | none => none

/-! ### DRAIN (R100) -/

/-- DRAIN (R100). -/
def drainEffect (_n : LaneId) (_args : List Word) (s : State) : Option (State × Reply) :=
  match s.drain with
  | some r => if r.allMet then some ({ s with drain := none }, complete) else some (s, retry)
  | none =>
    if s.queues.a.entries.isEmpty && s.queues.b.entries.isEmpty then some (s, complete)
    else some ({ closeTails s with drain := some (drainRecord s) }, retry)

/-! ### PURGE LANE (R193) and BROKER RESET (R182) -/

/-- The release of a lane's items, as a departure and a purge make it: its DTT entries, its slots, its fence record and
its count (R191 steps 5 to 7, R193 steps 2 to 4). -/
def releaseLane (n : LaneId) (s : State) : State × List RecordBody :=
  let e := releaseEntries (fun e => e.owner.lane = n) s
  (clearFence n (dropSlots (fun x => x.owner.lane = n) e.1), e.2)

/-- PURGE LANE (R193). The manager lane and a number above 14 are out of range. -/
def purgeLaneEffect (_n : LaneId) (args : List Word) (s : State) : Option (State × Reply) :=
  match args with
  | [w] =>
    match indexOf 15 w with
    | some m =>
      if s.manager = some m then none
      else
        let out := releaseLane m (s.modifyLane m fun l => { l with epoch := l.epoch + 1 })
        some (handRecords out.2 out.1, { complete with trigger := !out.2.isEmpty })
    | none => none
  | _ => none

/-- Both consecutive-failure counts set to 0 (R149). -/
def zeroFailures (s : State) : State :=
  { s with engines := s.engines.map fun e => { e with failures := 0 } }

/-- Steps 1 to 6 of R182, with the records of steps 1 and 2 in the order in which they are handed. -/
def resetWork (s : State) : State × List RecordBody :=
  let a := discardQueue .a .brokerReset s
  let b := discardQueue .b .brokerReset a.1
  let e := releaseEntries (fun _ => true) b.1
  let t := zeroFailures (freeRecords (dropSlots (fun _ => true) e.1))
  ({ t with gate := .closed }, a.2 ++ b.2 ++ e.2)

/-- BROKER RESET (R182). -/
def brokerResetEffect (_n : LaneId) (_args : List Word) (s : State) : Option (State × Reply) :=
  let out := resetWork s
  some (handRecords out.2 out.1, { complete with trigger := !out.2.isEmpty })

/-! ### The meanings -/

/-- CLAIM (R168). -/
def execClaim (s : State) : Host.Outcome State Fault Refusal := .next (takeMgmt .claim claimEffect s)

/-- RELEASE (R169). -/
def execRelease (s : State) : Host.Outcome State Fault Refusal := .next (takeMgmt .release releaseEffect s)

/-- OPEN (R172). -/
def execOpenGate (s : State) : Host.Outcome State Fault Refusal := .next (takeMgmt .openGate openEffect s)

/-- CLOSE (R172). -/
def execCloseGate (s : State) : Host.Outcome State Fault Refusal := .next (takeMgmt .closeGate closeEffect s)

/-- STAGE WINDOW (R5). -/
def execStageWindow (s : State) : Host.Outcome State Fault Refusal := .next (takeMgmt .stageWindow stageWindowEffect s)

/-- READ WINDOW (R7). -/
def execReadWindow (s : State) : Host.Outcome State Fault Refusal := .next (takeMgmt .readWindow readWindowEffect s)

/-- COMMIT (R11). -/
def execCommit (s : State) : Host.Outcome State Fault Refusal := .next (takeMgmt .commit commitEffect s)

/-- SET PARAMETER (R175). -/
def execSetParameter (s : State) : Host.Outcome State Fault Refusal :=
  .next (takeMgmt .setParameter setParameterEffect s)

/-- GET PARAMETER (R176). -/
def execGetParameter (s : State) : Host.Outcome State Fault Refusal :=
  .next (takeMgmt .getParameter getParameterEffect s)

/-- GET STATUS (R180). -/
def execGetStatus (s : State) : Host.Outcome State Fault Refusal := .next (takeMgmt .getStatus getStatusEffect s)

/-- LOG TAKE (R157). -/
def execLogTake (s : State) : Host.Outcome State Fault Refusal := .next (takeMgmt .logTake logTakeEffect s)

/-- SEGMENT ENABLE (R147). -/
def execSegmentEnable (s : State) : Host.Outcome State Fault Refusal :=
  .next (takeMgmt .segmentEnable segmentEnableEffect s)

/-- SEGMENT DISABLE (R146). -/
def execSegmentDisable (s : State) : Host.Outcome State Fault Refusal :=
  .next (takeMgmt .segmentDisable segmentDisableEffect s)

/-- DRAIN (R100). -/
def execDrain (s : State) : Host.Outcome State Fault Refusal := .next (takeMgmt .drain drainEffect s)

/-- PURGE LANE (R193). -/
def execPurgeLane (s : State) : Host.Outcome State Fault Refusal := .next (takeMgmt .purgeLane purgeLaneEffect s)

/-- BROKER RESET (R182). -/
def execBrokerReset (s : State) : Host.Outcome State Fault Refusal :=
  .next (takeMgmt .brokerReset brokerResetEffect s)

end Sys2Proof.Machine
end

