-- ==== Sys2Proof/Machine/Lanes.lean ====
section
/-! DEFINITION. The rack lanes (chapter 10): arrival, departure, delivery and sending of parcels, the power-on reset,
and the meanings of POWER_ON_RESET, ARRIVAL, DEPARTURE, PARCEL_DELIVERY and PARCEL_SEND. -/

namespace Sys2Proof.Machine

/-- The release of the RESET input: every block at its power-on value (R186, 10.9). The commands that wait are not the
part's and stay (notes/assumptions/8.md). -/
def powerOn (s : State) : State := { State.reset with pending := s.pending }

/-- The arrival of a DOWN lane (R189): UP, the epoch one further, the count 0. The buffers of a DOWN lane are empty
already (R186). -/
def arrivalEvent (n : LaneId) (s : State) : State :=
  if s.lanes[n].state = .down then
    (s.modifyLane n fun l => { l with state := .up, epoch := l.epoch + 1, rx := [], tx := [] }).setFailedWrites n 0
  else s

/-- The departure's first steps: the lane DOWN, both buffers emptied, and the role ended when the lane holds it (R191
steps 1 to 4). -/
def leaveLane (n : LaneId) (s : State) : State :=
  let t := s.modifyLane n fun l => { l with state := .down, rx := [], tx := [] }
  if s.manager = some n then endRole t else t

/-- The departure of an UP lane (R191). -/
def departLane (n : LaneId) (s : State) : State :=
  let out := releaseLane n (leaveLane n s)
  recordEvent out.2 out.1

/-- The departure event: of an UP lane. -/
def departureEvent (n : LaneId) (s : State) : State := if s.lanes[n].state = .up then departLane n s else s

/-- A parcel delivered to an UP lane: behind those received, or, when the buffer holds 2, not kept and the lane
departs in the same event (R187). -/
def deliveryEvent (n : LaneId) (p : Parcel) (s : State) : State :=
  if s.lanes[n].state = .up then
    if s.lanes[n].rx.length < Config.receiveCapacity then s.modifyLane n fun l => { l with rx := l.rx ++ [p] }
    else departLane n s
  else s

/-- The partner's credit: what the receive buffer does not hold (R187). -/
def Lane.credit (l : Lane) : Nat := Config.receiveCapacity - l.rx.length

/-- The front parcel of the transmit buffer sent, in its words (R188, R196). -/
def Lane.sendFront (l : Lane) : Lane :=
  match l.tx with
  | [] => l
  | p :: rest => { l with tx := rest, txLine := p.toWords }

/-- POWER_ON_RESET (R186). -/
def execPowerOnReset (s : State) : Host.Outcome State Fault Refusal := .next (powerOn s)

/-- ARRIVAL (R189). -/
def execArrival (n : LaneId) (s : State) : Host.Outcome State Fault Refusal := .next (arrivalEvent n s)

/-- DEPARTURE (R191). -/
def execDeparture (n : LaneId) (s : State) : Host.Outcome State Fault Refusal := .next (departureEvent n s)

/-- PARCEL_DELIVERY (R187). -/
def execParcelDelivery (n : LaneId) (p : Parcel) (s : State) : Host.Outcome State Fault Refusal :=
  .next (deliveryEvent n p s)

/-- PARCEL_SEND (R188). -/
def execParcelSend (n : LaneId) (s : State) : Host.Outcome State Fault Refusal := .next (s.modifyLane n Lane.sendFront)

end Sys2Proof.Machine
end

