-- ==== Sys2Proof/Machine/Timers.lean ====
section
/-! DEFINITION. The timebase and its timers (9.5): the close time of an open tail, and the meanings of
TIMEBASE_ADVANCE, DISCARD_EXPIRY, CLOSE_TIME and IDLE_EXPIRY. -/

namespace Sys2Proof.Machine

/-- The close time of a segment's open tail, taken when the timebase stands at it (R78, R179). -/
def closeTimeEvent (g : Segment) (s : State) : State :=
  match (s.queues.get g).tail with
  | some e => if e.closeTime = some s.timebase then closeTail g s else s
  | none => s

/-- Every expiry due at the present timebase value and not yet taken, taken now: close times, discard expiries and idle
expiries, and then the claim and hold limits, each in index order (R179; the order is the model's,
notes/assumptions/2.md). -/
def takeDue (s : State) : State :=
  let s1 := closeTimeEvent .b (closeTimeEvent .a s)
  let s2 := (List.finRange 16).foldl (fun t i => discardEvent i t) s1
  let s3 := (List.finRange 4).foldl (fun t i => idleEvent i t) s2
  let s4 := claimLimitEvent .b (claimLimitEvent .a s3)
  holdLimitEvent .b (holdLimitEvent .a s4)

/-- The timebase one further, 4294967295 being followed by 0 (R178). -/
def advanceTimebase (s : State) : State := { s with timebase := s.timebase + 1 }

/-- TIMEBASE_ADVANCE (R178). No expiry is passed over: one due at the present value is taken before the timebase moves
on (R179, notes/assumptions/2.md). -/
def execTimebaseAdvance (s : State) : Host.Outcome State Fault Refusal := .next (advanceTimebase (takeDue s))

/-- DISCARD_EXPIRY (R57). -/
def execDiscardExpiry (i : EntryIndex) (s : State) : Host.Outcome State Fault Refusal := .next (discardEvent i s)

/-- CLOSE_TIME (R78). -/
def execCloseTime (g : Segment) (s : State) : Host.Outcome State Fault Refusal := .next (closeTimeEvent g s)

/-- IDLE_EXPIRY (R120). -/
def execIdleExpiry (i : SlotIndex) (s : State) : Host.Outcome State Fault Refusal := .next (idleEvent i s)

end Sys2Proof.Machine
end

