-- ==== Sys2Proof/Machine/Dispatch.lean ====
section
/-! DEFINITION. One arm per command: a direct call of its meaning. -/

namespace Sys2Proof.Machine

def exec (i : Instr) (s : State) : Host.Outcome State Fault Refusal :=
  match i with
  | .powerOnReset => Sys2Proof.Machine.execPowerOnReset s
  | .timebaseAdvance => Sys2Proof.Machine.execTimebaseAdvance s
  | .arrival lane => Sys2Proof.Machine.execArrival lane s
  | .departure lane => Sys2Proof.Machine.execDeparture lane s
  | .parcelDelivery lane parcel => Sys2Proof.Machine.execParcelDelivery lane parcel s
  | .parcelSend lane => Sys2Proof.Machine.execParcelSend lane s
  | .malformedParcel => Sys2Proof.Machine.execMalformedParcel s
  | .read => Sys2Proof.Machine.execRead s
  | .write => Sys2Proof.Machine.execWrite s
  | .fence => Sys2Proof.Machine.execFence s
  | .claim => Sys2Proof.Machine.execClaim s
  | .release => Sys2Proof.Machine.execRelease s
  | .openGate => Sys2Proof.Machine.execOpenGate s
  | .closeGate => Sys2Proof.Machine.execCloseGate s
  | .stageWindow => Sys2Proof.Machine.execStageWindow s
  | .readWindow => Sys2Proof.Machine.execReadWindow s
  | .commit => Sys2Proof.Machine.execCommit s
  | .setParameter => Sys2Proof.Machine.execSetParameter s
  | .getParameter => Sys2Proof.Machine.execGetParameter s
  | .getStatus => Sys2Proof.Machine.execGetStatus s
  | .logTake => Sys2Proof.Machine.execLogTake s
  | .segmentEnable => Sys2Proof.Machine.execSegmentEnable s
  | .segmentDisable => Sys2Proof.Machine.execSegmentDisable s
  | .drain => Sys2Proof.Machine.execDrain s
  | .purgeLane => Sys2Proof.Machine.execPurgeLane s
  | .brokerReset => Sys2Proof.Machine.execBrokerReset s
  | .grant segment => Sys2Proof.Machine.execGrant segment s
  | .targetClaim segment => Sys2Proof.Machine.execTargetClaim segment s
  | .wordPass segment data parity => Sys2Proof.Machine.execWordPass segment data parity s
  | .cycleEnd segment ending => Sys2Proof.Machine.execCycleEnd segment ending s
  | .claimLimitExpiry segment => Sys2Proof.Machine.execClaimLimitExpiry segment s
  | .holdLimitExpiry segment => Sys2Proof.Machine.execHoldLimitExpiry segment s
  | .discardExpiry entry => Sys2Proof.Machine.execDiscardExpiry entry s
  | .closeTime segment => Sys2Proof.Machine.execCloseTime segment s
  | .idleExpiry slot => Sys2Proof.Machine.execIdleExpiry slot s

end Sys2Proof.Machine
end

