-- ==== Sys2Proof/Machine/Ports.lean ====
section
/-! DEFINITION. The lines that the broker drives on a segment port, named by function (10.9), as the item in progress
gives them (R127, R131). Nothing in the part reads them. -/

namespace Sys2Proof.Machine

/-- The outgoing lines of a segment port. -/
structure SegmentPort where
  selectStrobe : Bool
  kind : CycleKind
  address : SegAddr
  count : Nat
  masks : List (BitVec 4)
  /-- The word presented, with its mask and its byte parity: the next write word of a claimed WRITE cycle. -/
  presented : Option (WriteWord × BitVec 4)
deriving DecidableEq, Repr

/-- The select of a cycle and the write word it presents (R127, R131). -/
def Cycle.port (c : Cycle) : SegmentPort where
  selectStrobe := true
  kind := c.kind
  address := c.segAddr
  count := c.words
  masks := c.writeWords.map WriteWord.mask
  presented := match c.kind, c.phase with
    | .write, .data _ => c.writeWords[c.passed]?.map fun w => (w, wordParity w.data)
    | _, _ => none

/-- The port of a segment: its cycle's select, or no select while its engine is IDLE (R127). -/
def State.port (s : State) (g : Segment) : Option SegmentPort := (s.engine g).cycle.map Cycle.port

end Sys2Proof.Machine
end

