-- ==== Sys2Proof/Safety.lean ====
section
/-! DEFINITION. What a safe run of the broker is, in the terms the statements use: the invariants that the spec states
of the whole part, and the shape of an answered parcel. -/

namespace Sys2Proof.Machine

/-! ### Answers -/

/-- The state after the taking of the oldest parcel of lane n answered with one response, and nothing else changed
(R17, R18). -/
def answered (s : State) (n : LaneId) (r : Response) : State :=
  { s with
    lastGranted := n
    lanes := s.lanes.set n { s.lanes[n] with rx := s.lanes[n].rx.tail, tx := s.lanes[n].tx ++ [.response r] } }

/-- The response to a parcel: its tag copied (R19). -/
def responseTo (p : Parcel) (st : Status) (info : BitVec 16) (data : List Word) : Response :=
  { status := st, tag := tagOf p, info := info, data := data }

/-- The intake takes next the parcel p of lane n, and p is the MGMT operation op with these arguments. -/
abbrev TakesMgmt (s : State) (n : LaneId) (p : Parcel) (op : MgmtOp) (args : List Word) : Prop :=
  nextTaking s = some { lane := n, parcel := p } ∧ requestOf p = .mgmt op args

/-- The intake takes next the parcel p of lane n, and p is the request r. -/
abbrev TakesRequest (s : State) (n : LaneId) (p : Parcel) (r : Request) : Prop :=
  nextTaking s = some { lane := n, parcel := p } ∧ requestOf p = r

/-! ### Terms of the statements -/

/-- The command of a management operation. -/
def commandOf : MgmtOp → Instr
  | .claim => .claim
  | .release => .release
  | .openGate => .openGate
  | .closeGate => .closeGate
  | .stageWindow => .stageWindow
  | .readWindow => .readWindow
  | .commit => .commit
  | .setParameter => .setParameter
  | .getParameter => .getParameter
  | .getStatus => .getStatus
  | .logTake => .logTake
  | .segmentEnable => .segmentEnable
  | .segmentDisable => .segmentDisable
  | .drain => .drain
  | .purgeLane => .purgeLane
  | .brokerReset => .brokerReset

/-- The command that takes a parcel of that request. -/
def takenBy : Request → Instr
  | .malformed => .malformedParcel
  | .read _ _ => .read
  | .write _ _ => .write
  | .fence => .fence
  | .mgmt op _ => commandOf op

/-- The twenty commands that take a parcel at the intake. -/
def intakeCommands : List Instr :=
  [.malformedParcel, .read, .write, .fence, .claim, .release, .openGate, .closeGate, .stageWindow, .readWindow, .commit,
    .setParameter, .getParameter, .getStatus, .logTake, .segmentEnable, .segmentDisable, .drain, .purgeLane, .brokerReset]

/-- The refusals of a manager's operation before its argument values are looked at: from a lane that is not the manager,
and then with a wrong number of argument words (R164). -/
abbrev RefusedFirst (op : MgmtOp) (s : State) (n : LaneId) (p : Parcel) (args : List Word) : Prop :=
  (s.manager ≠ some n → exec (commandOf op) s = .next (answered s n (responseTo p (.refused .notManager) 0 []))) ∧
  (s.manager = some n → args.length ≠ op.argCount →
    exec (commandOf op) s = .next (answered s n (responseTo p (.refused .badArgument) 0 [])))

/-- How many lanes the arbiter passes before it looks at lane n (R17). -/
def lanesPassed (last n : LaneId) : Nat := (n.val + 14 - last.val) % 15

/-- The responses that wait on a lane, oldest first. -/
def Lane.waiting (l : Lane) : List TxParcel := l.tx.filter TxParcel.isResponse

/-- A READ at that address is not at the next address of the lane's own slot (R26). -/
abbrev NotServed (n : LaneId) (address : Word) (s : State) : Prop :=
  ∀ i, ownSlot (s.currentOwner n) s = some i → address ≠ s.slots[i].nextAddr

/-- The state in which such a READ goes on: the lane's own slot is dropped when the READ lies in its window (R27). -/
def passStream (n : LaneId) (address : Word) (s : State) : State :=
  match ownSlot (s.currentOwner n) s with
  | some i => if s.live[s.slots[i].window].spans address then dropSlot i s else s
  | none => s

/-- An entry on which a repeat is answered RETRY (R28). -/
abbrev DttEntry.waits (e : DttEntry) : Prop := e.state = .queued ∨ e.state = .issued ∨ e.state = .partly

/-- The lookup finds window k, the lane may use it for the access, its mode carries the access and its segment is not
FAULTED (R30, R31, R32). -/
abbrev Admitted (s : State) (n : LaneId) (x : Access) (address : Word) (k : WindowIndex) : Prop :=
  lookup s.live address = some k ∧ s.live[k].permits n x = true ∧ s.live[k].modeRefusal x = none ∧
    (s.engine s.live[k].segment).state ≠ .faulted

/-- The merge conditions, for a tail e and a write of the words ws to segment address a under window k (R73). -/
abbrev MayMerge (s : State) (n : LaneId) (k : WindowIndex) (a : SegAddr) (ws : List WriteWord) (e : QueueEntry) : Prop :=
  e.closeTime.isSome = true ∧ e.progress = 0 ∧ e.owner = s.currentOwner n ∧ e.window = k ∧ s.live[k].merge = true ∧
    a.toNat = e.segAddr.toNat + 4 * e.writeWords.length ∧
    (a.toNat + 4 * ws.length - 4) / 64 = e.segAddr.toNat / 64 ∧ e.writeWords.length + ws.length ≤ 16

/-- Words from a segment address that fill an entry: 16 of them, or the last one is the last of its block (R77). -/
def fills (a : SegAddr) (words : Nat) : Bool := words = 16 || (a.toNat + 4 * words) % 64 = 0

/-- The slot y is what a drop makes of the slot x (R118). -/
abbrev StreamSlot.DroppedTo (x y : StreamSlot) : Prop :=
  match x.state with
  | .empty => y = x
  | .holding => y.state = .empty ∧ y.refill = none
  | .filling => if x.inCycle then y = { x with state := .retiring, held := [] } else y.state = .empty ∧ y.refill = none
  | .retiring => y = x

/-- The entry f is what a release makes of the entry e (R62). -/
abbrev DttEntry.ReleasedTo (e f : DttEntry) : Prop :=
  match e.state with
  | .free => f = e
  | .queued => f.state = .free
  | .partly => f.state = .free
  | .ready => f.state = .free
  | .issued => f = { e with state := .abandoned }
  | .abandoned => f = e

/-- The request orders keep the slots that still have a pending refill (R108). -/
def keptOrder (v : Vector StreamSlot 4) (p : PerSegment (List SlotIndex)) : PerSegment (List SlotIndex) :=
  p.map fun l => l.filter fun i => v[i].refill.isSome

/-- The WORK-ABANDONED records of the PARTIAL ACKED-WRITE entries with progress that pass a test, in index order
(R64). -/
def workAbandonedOf (p : DttEntry → Bool) (s : State) : List RecordBody :=
  (s.dtt.toList.filter fun e => p e && e.state = .partly && e.kind = .ackedWrite && 1 ≤ e.progress).map fun e =>
    { kind := .workAbandoned, lane := some e.owner.lane, segment := some e.segment, segAddr := some e.segAddr,
      words := some e.progress }

/-- The log after a list of records handed at the present time, one by one (R154, R155, R156). -/
def State.logAfter (s : State) (bs : List RecordBody) : ExceptionLog := bs.foldl (fun l b => l.hand s.timebase b) s.log

/-- The state with the ALERT trigger applied when the event handed a record (R159). -/
def triggeredBy (bs : List RecordBody) (s : State) : State := if bs = [] then s else alertTrigger s

/-- The ten values of the parameters, by number (R174). -/
def Parameters.values (p : Parameters) : List Nat :=
  [p.discardTime, p.quota, p.mergeWindow, p.highWater, p.streamIdle, p.holdLimitA, p.holdLimitB, p.faultThresholdA,
    p.faultThresholdB, if p.alerts then 1 else 0]

/-- The lower and upper ends of the ten ranges, by number (R174). -/
def parameterRanges : List (Nat × Nat) :=
  [(64, 65535), (1, 16), (0, 255), (8, 31), (16, 4095), (1, 4095), (1, 4095), (0, 15), (0, 15), (0, 1)]

/-- A number and a value that SET PARAMETER accepts (R175). -/
abbrev ParameterOk (number value : Nat) : Prop :=
  ∃ r ∈ parameterRanges[number]?, r.1 ≤ value ∧ value ≤ r.2

/-- The checks of R6, on the four words of a record with valid = yes (R197). -/
abbrev RecordWordsOk (w0 w1 w2 w3 : Word) : Prop :=
  (12 ≤ (w0.extractLsb' 0 5).toNat ∧ (w0.extractLsb' 0 5).toNat ≤ 28) ∧
    w1.toNat % 2 ^ (w0.extractLsb' 0 5).toNat = 0 ∧ (w2.extractLsb' 0 28).toNat % 4096 = 0 ∧
    (w2.extractLsb' 0 28).toNat + 2 ^ (w0.extractLsb' 0 5).toNat ≤ 0x10000000 ∧ (w0.extractLsb' 8 2).toNat ≤ 1 ∧
    (w0.extractLsb' 12 2).toNat ≤ 2 ∧ (w0.extractLsb' 16 2).toNat ≤ 2 ∧
    (w0.getLsbD 20 = false ∨ (w0.extractLsb' 16 2).toNat = 1) ∧ w3.getLsbD 15 = false ∧ w3.getLsbD 31 = false

/-- The record has the fields that its four words carry (R197). -/
abbrev WindowRecord.Carries (r : WindowRecord) (w0 w1 w2 w3 : Word) : Prop :=
  r.valid = w0.getLsbD 31 ∧ r.base = w1 ∧ r.sizeCode = w0.extractLsb' 0 5 ∧ r.targetBase = w2.extractLsb' 0 28 ∧
    segmentCode r.segment = (w0.extractLsb' 8 2).toNat ∧ r.readMode.code = (w0.extractLsb' 12 2).toNat ∧
    r.writeMode.code = (w0.extractLsb' 16 2).toNat ∧ r.merge = w0.getLsbD 20 ∧ r.readLanes = w3.extractLsb' 0 15 ∧
    r.writeLanes = w3.extractLsb' 16 15

/-- Candidate F is entry i: it may be granted on the segment, and no other that may is older; of equal age the lower
index (R46, R50). -/
abbrev OldestGrantable (s : State) (g : Segment) (i : EntryIndex) : Prop :=
  s.dtt[i].grantable g = true ∧
    ∀ j, s.dtt[j].grantable g = true →
      (s.creationCounter - s.dtt[j].creation).toNat < (s.creationCounter - s.dtt[i].creation).toNat ∨
        (s.creationCounter - s.dtt[j].creation).toNat = (s.creationCounter - s.dtt[i].creation).toNat ∧ i ≤ j

/-- The owner is the card now on its lane: the lane is UP under the owner's epoch. -/
def State.present (s : State) (o : Owner) : Bool := s.lanes[o.lane].state = .up && s.lanes[o.lane].epoch = o.epoch

/-- How many entries of a queue count against a lane as failed when they are discarded: those of the lane's current
epoch, while it is UP (R84, R102). -/
def State.chargedTo (s : State) (n : LaneId) (q : PostedQueue) : Nat :=
  q.entries.countP fun e => e.owner.lane = n && s.present e.owner

/-- The barrier y is what a discard of every entry of the queue makes of the barrier x on it: met when it names one of
them, else as it was (R91, R144). -/
abbrev Barrier.AfterDiscard (q : PostedQueue) (x y : Barrier) : Prop :=
  ((∃ e ∈ q.entries, x.value = some e.seq) → y = { value := x.value, met := true }) ∧
    ((∀ e ∈ q.entries, x.value ≠ some e.seq) → y = x)

/-- The commands, taken one after another, lead from one state to the other. -/
def Runs : List Instr → State → State → Prop
  | [], s, t => s = t
  | c :: cs, s, t => ∃ u : State, exec c s = .next u ∧ Runs cs u t

/-- The expiries and limits that TIMEBASE_ADVANCE takes when they are still due, in its order
(notes/assumptions/2.md). -/
def dueCommands : List Instr :=
  [.closeTime .a, .closeTime .b] ++ (List.finRange 16).map Instr.discardExpiry ++
    (List.finRange 4).map Instr.idleExpiry ++
    [.claimLimitExpiry .a, .claimLimitExpiry .b, .holdLimitExpiry .a, .holdLimitExpiry .b]

/-! ### Lanes and role (R165, R181, R186 to R188) -/

/-- The ALERTs a transmit buffer holds. -/
def Lane.alerts (l : Lane) : Nat := l.tx.countP TxParcel.isAlert

/-- A lane's buffers: 0..2 parcels received, at most 2 responses and 1 ALERT to send, both empty while DOWN (R186 to
R188). -/
abbrev Lane.buffersOk (l : Lane) : Prop :=
  l.rx.length ≤ 2 ∧ l.responses ≤ 2 ∧ l.alerts ≤ 1 ∧ (l.state = .down → l.rx = [] ∧ l.tx = [])

/-- Every lane's buffers are within their capacity, the manager lane is UP, and no alert is outstanding without a
manager (R158, R165, R188). -/
abbrev LanesAndRoleOk (s : State) : Prop :=
  (∀ n : LaneId, s.lanes[n].buffersOk) ∧ (∀ n : LaneId, s.manager = some n → s.lanes[n].state = .up) ∧
    (s.manager = none → s.log.alertOutstanding = false)

/-! ### Exception log (R154, R155) -/

/-- The log holds at most 64 records with consecutive sequence numbers, the newest one less than the counter, and it
has lost records only while it is full (R154, R155). -/
abbrev LogOk (s : State) : Prop :=
  s.log.records.length ≤ 64 ∧ s.log.lost ≤ 65535 ∧ (s.log.lost ≠ 0 → s.log.records.length = 64) ∧
    s.log.records.map LogRecord.seq =
      (List.range s.log.records.length).map fun i => s.log.counter - BitVec.ofNat 16 (s.log.records.length - i)

/-! ### Posted write queues (R69, R71, R77) -/

/-- A queue holds at most 32 entries, numbered by one from the number after the retired mark up to the counter, and
only its tail can be open (R69, R71, R77). -/
abbrev PostedQueue.ok (q : PostedQueue) : Prop :=
  q.entries.length ≤ 32 ∧ q.counter = q.retired + BitVec.ofNat 16 q.entries.length ∧
    q.entries.map QueueEntry.seq = (List.range q.entries.length).map (fun i => q.retired + BitVec.ofNat 16 (i + 1)) ∧
    q.entries.dropLast.all QueueEntry.closed = true

/-- Both queues are in order. -/
abbrev QueuesOk (s : State) : Prop := s.queues.a.ok ∧ s.queues.b.ok

/-! ### Deferred Transaction Table (R47) -/

/-- No two entries that a repeat may match are the same request (R47). -/
abbrev NoDuplicateEntries (s : State) : Prop :=
  ∀ i j : EntryIndex, i ≠ j → s.dtt[i].matchable = true → s.dtt[j].matchable = true →
    s.dtt[j].sameRequest s.dtt[i].owner s.dtt[i].kind s.dtt[i].address s.dtt[i].words s.dtt[i].writeWords = false

/-! ### Items on the bus, and FAULTED segments (R137, R145) -/

/-- The engine of a segment carries the item. -/
def State.onBus (s : State) (g : Segment) (item : WorkItem) : Bool := (s.engine g).cycle.any fun c => c.item = item

/-- An entry on the bus, and a slot whose refill is in a cycle or that is RETIRING, is the item of its segment's cycle;
a slot has a pending refill when it is FILLING or RETIRING and not otherwise; the request order of a segment lists slots
of that segment with a pending refill (R106, R108, R134, R137). -/
abbrev ItemsOnBusOk (s : State) : Prop :=
  (∀ i : EntryIndex, s.dtt[i].state = .issued ∨ s.dtt[i].state = .abandoned →
    s.onBus s.dtt[i].segment (.dttEntry i) = true) ∧
  (∀ i : SlotIndex, s.slots[i].state = .retiring ∨ s.slots[i].state = .filling ∧ s.slots[i].inCycle = true →
    s.onBus s.slots[i].segment (.streamSlot i) = true) ∧
  (∀ i : SlotIndex, s.slots[i].refill.isSome = true ↔ s.slots[i].state = .filling ∨ s.slots[i].state = .retiring) ∧
  (∀ i ∈ s.refillOrder.a, s.slots[i].segment = .a ∧ s.slots[i].refill.isSome = true) ∧
  (∀ i ∈ s.refillOrder.b, s.slots[i].segment = .b ∧ s.slots[i].refill.isSome = true)

/-- While a segment is FAULTED its queue is empty, no cycle is in progress on it, none of its entries is QUEUED, ISSUED
or PARTIAL, and it has no slot (R122, R145). -/
abbrev FaultedQuiet (s : State) (g : Segment) : Prop :=
  (s.engine g).state = .faulted →
    (s.queues.get g).entries = [] ∧ (s.engine g).cycle = none ∧
    (∀ i : EntryIndex, s.dtt[i].segment = g →
      s.dtt[i].state ≠ .queued ∧ s.dtt[i].state ≠ .issued ∧ s.dtt[i].state ≠ .partly) ∧
    (∀ i : SlotIndex, s.slots[i].segment = g → s.slots[i].state = .empty)

/-- Items on the bus are the engines' items, and a FAULTED segment is quiet. -/
abbrev BusOk (s : State) : Prop := ItemsOnBusOk s ∧ FaultedQuiet s .a ∧ FaultedQuiet s .b

/-! ### Barriers (R91, R92) -/

/-- A barrier that is not met names an entry that the queue still holds (R91). -/
def Barrier.okOn (x : Barrier) (q : PostedQueue) : Bool :=
  x.met || q.entries.any fun e => x.value = some e.seq

/-- Every unmet barrier, of a DTT entry, a pending refill, a fence record or the drain record, names an entry that its
queue still holds (R90, R91). -/
abbrev BarriersOk (s : State) : Prop :=
  (∀ i : EntryIndex, s.dtt[i].barrier.okOn (s.queues.get s.dtt[i].segment) = true) ∧
  (∀ i : SlotIndex, ∀ r ∈ s.slots[i].refill, r.barrier.okOn (s.queues.get s.slots[i].segment) = true) ∧
  (∀ n : LaneId, ∀ r ∈ s.fences[n], r.a.okOn s.queues.a = true ∧ r.b.okOn s.queues.b = true) ∧
  (∀ r ∈ s.drain, r.a.okOn s.queues.a = true ∧ r.b.okOn s.queues.b = true)

/-! ### Ranges (R102, R141, R174) -/

/-- Every parameter is in its range (R174). -/
abbrev Parameters.inRange (p : Parameters) : Prop :=
  (64 ≤ p.discardTime ∧ p.discardTime ≤ 65535) ∧ (1 ≤ p.quota ∧ p.quota ≤ 16) ∧ p.mergeWindow ≤ 255 ∧
    (8 ≤ p.highWater ∧ p.highWater ≤ 31) ∧ (16 ≤ p.streamIdle ∧ p.streamIdle ≤ 4095) ∧
    (1 ≤ p.holdLimitA ∧ p.holdLimitA ≤ 4095) ∧ (1 ≤ p.holdLimitB ∧ p.holdLimitB ≤ 4095) ∧
    p.faultThresholdA ≤ 15 ∧ p.faultThresholdB ≤ 15

/-- Every count and every parameter is in its range (R102, R141, R174). -/
abbrev CountsOk (s : State) : Prop :=
  (∀ n : LaneId, s.failedWrites[n] ≤ 255) ∧ s.engines.a.failures ≤ 255 ∧ s.engines.b.failures ≤ 255 ∧
    s.params.inRange

/-! ### Timers (R56, R178, R179) -/

/-- The µs from now to a timebase value, modulo 2^32. -/
def State.until (s : State) (t : Time) : Nat := (t - s.timebase).toNat

/-- The close time of an open tail lies within 255 µs (R78, R179). -/
def PostedQueue.closeTimeOk (q : PostedQueue) (s : State) : Bool :=
  q.tail.all fun e => e.closeTime.all fun t => s.until t ≤ 255

/-- The claim limit and the hold limit of a cycle have not been passed by more than the µs that shows it (R128,
R129). -/
def Cycle.limitsOk (c : Cycle) (s : State) : Bool :=
  c.holdLimit ≤ 4095 &&
    match c.phase with
    | .claim t => s.since t ≤ 1
    | .data t => s.since t ≤ c.holdLimit + 1

/-- No timer has been passed over: every READY entry expires within 65535 µs, every open tail closes within 255 µs,
every HOLDING or FILLING slot expires within 4095 µs, no cycle is past its limits, and the parameters that set the
timers are in range (R56, R78, R120, R128, R129, R174, R179). -/
abbrev TimersOk (s : State) : Prop :=
  (∀ i : EntryIndex, s.dtt[i].state = .ready → s.until s.dtt[i].expiry ≤ 65535) ∧
    s.queues.a.closeTimeOk s = true ∧ s.queues.b.closeTimeOk s = true ∧
    (∀ i : SlotIndex, s.slots[i].live = true → s.until s.slots[i].idleExpiry ≤ 4095) ∧
    (∀ c ∈ s.engines.a.cycle, c.limitsOk s = true) ∧ (∀ c ∈ s.engines.b.cycle, c.limitsOk s = true) ∧
    s.params.inRange

/-- No expiry and no limit is due at the present timebase value. -/
abbrev NothingDue (s : State) : Prop :=
  (∀ i : EntryIndex, s.dtt[i].state = .ready → s.dtt[i].expiry ≠ s.timebase) ∧
    (∀ e ∈ s.queues.a.tail, e.closeTime ≠ some s.timebase) ∧ (∀ e ∈ s.queues.b.tail, e.closeTime ≠ some s.timebase) ∧
    (∀ i : SlotIndex, s.slots[i].live = true → s.slots[i].idleExpiry ≠ s.timebase) ∧
    (∀ c ∈ s.engines.a.cycle, c.claimOverdue s = false ∧ c.holdOverdue s = false) ∧
    (∀ c ∈ s.engines.b.cycle, c.claimOverdue s = false ∧ c.holdOverdue s = false)

/-! ### Owners (R41, R93, R109, R192) -/

/-- Entries that a repeat may match, slots that serve, and fence records belong to the card now on their lane, and a
lane has at most one slot that serves (R93, R109, R192). -/
abbrev OwnersOk (s : State) : Prop :=
  (∀ i : EntryIndex, s.dtt[i].matchable = true → s.present s.dtt[i].owner = true) ∧
  (∀ i : SlotIndex, s.slots[i].live = true → s.present s.slots[i].owner = true) ∧
  (∀ i j : SlotIndex, i ≠ j → s.slots[i].live = true → s.slots[j].live = true →
    s.slots[i].owner.lane ≠ s.slots[j].owner.lane) ∧
  (∀ n : LaneId, s.fences[n].isSome = true → s.lanes[n].state = .up)

/-! ### Blocks (R2, R10, R127) -/

/-- Words from a segment address lie, word-aligned, in one 64-byte block, and are at most 16 (R127). -/
def inOneBlock (a : SegAddr) (words : Nat) : Bool := a.toNat % 4 = 0 && blockOffset a.toNat + 4 * words ≤ 64

/-- A bank entry holds a valid record that passes the checks of STAGE WINDOW, or the cleared record (R2). -/
def WindowRecord.ok (w : WindowRecord) : Bool := w = WindowRecord.cleared || (w.valid && w.passes)

/-- A slot's two next addresses stand at the same place of a block, and its refill lies in one block (R10, R107). -/
def StreamSlot.blocksOk (x : StreamSlot) : Bool :=
  blockOffset x.nextAddr.toNat = blockOffset x.nextSegAddr.toNat && x.nextAddr.toNat % 4 = 0 &&
    x.refill.all fun r => inOneBlock r.start r.words

/-- Every window record is cleared or passes the checks, and every entry, refill and cycle lies in one block (R2, R10,
R68, R107, R127). A stream-flagged entry lies in the LIVE window it was created under (R12, R110). -/
abbrev BlocksOk (s : State) : Prop :=
  (∀ k : WindowIndex, s.staged[k].ok = true ∧ s.live[k].ok = true) ∧
  (∀ e ∈ s.queues.a.entries, inOneBlock e.segAddr e.words = true) ∧
  (∀ e ∈ s.queues.b.entries, inOneBlock e.segAddr e.words = true) ∧
  (∀ i : EntryIndex, inOneBlock s.dtt[i].segAddr s.dtt[i].words = true ∧
    s.dtt[i].address.toNat % 4 = 0 ∧ blockOffset s.dtt[i].address.toNat + 4 * s.dtt[i].words ≤ 64 ∧
    blockOffset s.dtt[i].address.toNat = blockOffset s.dtt[i].segAddr.toNat ∧
    (s.dtt[i].state ≠ .free → s.dtt[i].streamFlag = true →
      s.live[s.dtt[i].window].contains s.dtt[i].address = true)) ∧
  (∀ i : SlotIndex, s.slots[i].blocksOk = true) ∧
  (∀ c ∈ s.engines.a.cycle, inOneBlock c.segAddr c.words = true) ∧
  (∀ c ∈ s.engines.b.cycle, inOneBlock c.segAddr c.words = true)

/-! ### Transfers (R40, R53, R106, R113) -/

/-- A cycle has passed no more words than it carries, and a READ cycle holds the words that passed (R129, R138). -/
def Cycle.countsOk (c : Cycle) : Bool := c.passed ≤ c.words && (c.kind = .write || c.readData.length = c.passed)

/-- A cycle for a DTT entry or a refill is on the item's own segment and carries the item's remainder, while the item
is marked as on the bus (R51, R114, R137). -/
def Cycle.itemOk (c : Cycle) (g : Segment) (s : State) : Bool :=
  match c.item with
  | .queueEntry _ => true
  | .dttEntry i =>
    s.dtt[i].segment = g && (s.dtt[i].state = .issued || s.dtt[i].state = .abandoned) &&
      c.words = s.dtt[i].words - s.dtt[i].progress && (c.kind = .read) == (s.dtt[i].kind = .read)
  | .streamSlot i =>
    s.slots[i].segment = g && (s.slots[i].state = .filling || s.slots[i].state = .retiring) && c.kind = .read &&
      s.slots[i].refill.any fun r => r.inCycle && c.words = r.words - r.progress

/-- The words an entry holds: as many as its progress while it waits or is on the bus, and all of them once it is READY
with SUCCESS (R40). -/
def DttEntry.dataOk (e : DttEntry) : Bool :=
  match e.state with
  | .queued | .issued | .partly => e.progress < e.words && (e.kind = .ackedWrite || e.readData.length = e.progress)
  | .ready => e.kind = .ackedWrite || e.outcome ≠ .success || e.readData.length = e.words
  | .free | .abandoned => true

/-- A HOLDING slot holds at most 31 words; a FILLING slot holds at most 15 beside those its refill has delivered
(R106, R113). -/
def StreamSlot.dataOk (x : StreamSlot) : Bool :=
  match x.state with
  | .holding => x.held.length ≤ 31
  | .filling => x.refill.all fun r => r.progress ≤ r.words && r.words ≤ 16 && x.held.length ≤ 15 + r.progress
  | .empty | .retiring => true

/-- What a cycle carries is the remainder of its item, what an entry holds is as many words as it says, and a slot
never holds more than 31 words (R40, R53, R113). -/
abbrev TransfersOk (s : State) : Prop :=
  (∀ c ∈ s.engines.a.cycle, c.countsOk = true ∧ c.itemOk .a s = true) ∧
  (∀ c ∈ s.engines.b.cycle, c.countsOk = true ∧ c.itemOk .b s = true) ∧
  (∀ i : EntryIndex, s.dtt[i].dataOk = true) ∧ (∀ i : SlotIndex, s.slots[i].dataOk = true) ∧
  (∀ i ∈ s.refillOrder.a, s.slots[i].segment = .a) ∧ (∀ i ∈ s.refillOrder.b, s.slots[i].segment = .b)

/-! ### A safe run -/

/-- Everything the spec states of the whole part at every moment. -/
abbrev Invariant (s : State) : Prop :=
  LanesAndRoleOk s ∧ LogOk s ∧ QueuesOk s ∧ NoDuplicateEntries s ∧ BusOk s ∧ BarriersOk s ∧ CountsOk s ∧ TimersOk s ∧
    OwnersOk s ∧ BlocksOk s ∧ TransfersOk s

/-- A property is kept by every step that answers a next state. -/
def KeptByStep (p : State → Prop) : Prop := ∀ s t : State, p s → step s = .next t → p t

end Sys2Proof.Machine
end

