-- ==== Sys2Proof/Certificates/Slice0/Obligations.lean ====
section
/-! DEFINITION. The statements for the provers. Titles, texts and the rules they rest on stand in OBLIGATIONS.json. A
statement that rests on a choice of the model names its row of notes/assumptions. -/

open Sys2Proof Sys2Proof.Machine

/-! ### The step, the commands as a whole, reset -/

/-- A step runs the command at the front on the rest of the queue; with an empty queue it idles (row 8). -/
def Obligations.StepRunsFrontCommand : Prop :=
  (∀ (c : Instr) (rest : List Instr) (s : State),
    step { s with pending := c :: rest } = exec c { s with pending := rest }) ∧
  (∀ s : State, step { s with pending := [] } = .next { s with pending := [] })

/-- Every command answers a next state and leaves the queue of the commands that wait as it is. -/
def Obligations.EveryCommandAnswersNext : Prop :=
  ∀ (c : Instr) (s : State), ∃ t : State, exec c s = .next t ∧ t.pending = s.pending

/-- POWER_ON_RESET gives every block its power-on value, and the commands that wait stay (row 8). -/
def Obligations.PowerOnResetValues : Prop :=
  ∀ s : State, ∃ t : State, exec .powerOnReset s = .next t ∧ t.pending = s.pending ∧
    (∀ n : LaneId, t.lanes[n].state = .down ∧ t.lanes[n].epoch = 0 ∧ t.lanes[n].rx = [] ∧ t.lanes[n].tx = []) ∧
    t.lastGranted = 14 ∧
    (∀ k : WindowIndex, t.staged[k] = WindowRecord.cleared ∧ t.live[k] = WindowRecord.cleared) ∧ t.generation = 0 ∧
    (∀ i : EntryIndex, t.dtt[i].state = .free) ∧ t.creationCounter = 0 ∧
    (∀ g : Segment, t.queues.get g = { entries := [], counter := 0, retired := 0 }) ∧
    (∀ n : LaneId, t.fences[n] = none ∧ t.failedWrites[n] = 0) ∧ t.drain = none ∧
    (∀ i : SlotIndex, t.slots[i].state = .empty) ∧ t.refillOrder = { a := [], b := [] } ∧
    (∀ g : Segment, t.engine g = { state := .enabled, failures := 0, lastWF := .w, cycle := none }) ∧
    t.log = { records := [], counter := 0, lost := 0, alertOutstanding := false } ∧
    t.manager = none ∧ t.gate = .closed ∧ t.params.values = [4096, 4, 8, 24, 512, 200, 200, 8, 8, 0] ∧
    t.timebase = 0

/-- The invariant of the broker holds at State.reset. -/
def Obligations.InvariantHoldsAtReset : Prop := Invariant State.reset

/-! ### What every step keeps -/

/-- Every step keeps the lanes' buffers within their capacity, the manager lane UP, and no alert outstanding without a
manager. -/
def Obligations.LaneBuffersAndRoleKept : Prop := KeptByStep LanesAndRoleOk

/-- Every step keeps the log at 64 consecutive records or fewer, with losses only while it is full. -/
def Obligations.LogSequencesKept : Prop := KeptByStep LogOk

/-- Every step keeps the queues at 32 consecutively numbered entries or fewer, with none but the tail open. -/
def Obligations.QueueNumberingKept : Prop := KeptByStep QueuesOk

/-- Every step keeps the table free of two entries that one repeat would match. -/
def Obligations.NoDuplicateEntriesKept : Prop := KeptByStep NoDuplicateEntries

/-- Every step keeps the items on the bus with their engines, and a FAULTED segment quiet. -/
def Obligations.FaultedSegmentQuietKept : Prop := KeptByStep BusOk

/-- Every step keeps every unmet barrier naming an entry that its queue holds. -/
def Obligations.UnmetBarriersNameQueuedEntriesKept : Prop := KeptByStep BarriersOk

/-- Every step keeps every count and every parameter in its range. -/
def Obligations.CountsAndParametersInRangeKept : Prop := KeptByStep CountsOk

/-- Every step keeps every timer ahead of the timebase and every cycle within its limits (rows 2 and 3). -/
def Obligations.NoTimerPassedOverKept : Prop := KeptByStep TimersOk

/-- Every step keeps matchable entries, serving slots and fence records with the card now on their lane. -/
def Obligations.ItemsBelongToPresentCardKept : Prop := KeptByStep OwnersOk

/-- Every step keeps the window records valid or cleared, and every item within one block. -/
def Obligations.ItemsInOneBlockKept : Prop := KeptByStep BlocksOk

/-- Every step keeps each cycle to the remainder of its item and each entry's words to its progress. -/
def Obligations.TransfersMatchProgressKept : Prop := KeptByStep TransfersOk

/-- State that only named commands write is unchanged by every other command: the gate, both banks and the generation,
the parameters, the timebase, the manager lane, the creation counter and the lane epochs. -/
def Obligations.StateChangedOnlyByItsCommands : Prop :=
  ∀ (c : Instr) (s t : State), exec c s = .next t → c ≠ .powerOnReset →
    (c ≠ .openGate → c ≠ .closeGate → c ≠ .brokerReset → t.gate = s.gate) ∧
    (c ≠ .stageWindow → t.staged = s.staged) ∧
    (c ≠ .commit → t.live = s.live ∧ t.generation = s.generation) ∧
    (c ≠ .setParameter → t.params = s.params) ∧
    (c ≠ .timebaseAdvance → t.timebase = s.timebase) ∧
    (c ≠ .claim → c ≠ .release → (∀ n, c ≠ .departure n) → (∀ n p, c ≠ .parcelDelivery n p) →
      t.manager = s.manager) ∧
    (c ≠ .read → c ≠ .write → t.creationCounter = s.creationCounter) ∧
    (c ≠ .purgeLane → (∀ n, c ≠ .arrival n) → ∀ n : LaneId, t.lanes[n].epoch = s.lanes[n].epoch) ∧
    (c ∉ intakeCommands → t.lastGranted = s.lastGranted)

/-- A command whose event cannot occur in the present state changes nothing (row 1): a row that is not the next
parcel's, an arrival of an UP lane, a departure of or a delivery to a DOWN lane, a sending with nothing to send, a
grant with no candidate or no free engine, a claim, a word, an ending or a limit with no cycle, in the wrong phase or on
the wrong side of its limit (row 3), a word after the last, an expiry not due. -/
def Obligations.ImpossibleEventsChangeNothing : Prop :=
  ∀ s : State,
    (∀ c ∈ intakeCommands, (∀ t ∈ nextTaking s, takenBy (requestOf t.parcel) ≠ c) → exec c s = .next s) ∧
    (∀ n : LaneId, s.lanes[n].state = .up → exec (.arrival n) s = .next s) ∧
    (∀ n : LaneId, s.lanes[n].state = .down →
      exec (.departure n) s = .next s ∧ ∀ p, exec (.parcelDelivery n p) s = .next s) ∧
    (∀ n : LaneId, s.lanes[n].tx = [] → exec (.parcelSend n) s = .next s) ∧
    (∀ g : Segment, (s.engine g).state ≠ .enabled ∨ (s.engine g).cycle ≠ none ∨ arbiter g s = none →
      exec (.grant g) s = .next s) ∧
    (∀ g : Segment, (s.engine g).cycle = none →
      exec (.targetClaim g) s = .next s ∧ (∀ w q, exec (.wordPass g w q) s = .next s) ∧
      (∀ x, exec (.cycleEnd g x) s = .next s) ∧ exec (.claimLimitExpiry g) s = .next s ∧
      exec (.holdLimitExpiry g) s = .next s) ∧
    (∀ (g : Segment) (c : Cycle) (t : Time), (s.engine g).cycle = some c → c.phase = .claim t →
      (1 < (s.timebase - t).toNat → exec (.targetClaim g) s = .next s) ∧
      (∀ w q, exec (.wordPass g w q) s = .next s) ∧ (∀ x, exec (.cycleEnd g x) s = .next s) ∧
      ((s.timebase - t).toNat < 1 → exec (.claimLimitExpiry g) s = .next s) ∧
      exec (.holdLimitExpiry g) s = .next s) ∧
    (∀ (g : Segment) (c : Cycle) (t : Time), (s.engine g).cycle = some c → c.phase = .data t →
      exec (.targetClaim g) s = .next s ∧
      (c.words ≤ c.passed ∨ c.holdLimit < (s.timebase - t).toNat → ∀ w q, exec (.wordPass g w q) s = .next s) ∧
      (c.holdLimit < (s.timebase - t).toNat → ∀ x, exec (.cycleEnd g x) s = .next s) ∧
      exec (.claimLimitExpiry g) s = .next s ∧
      ((s.timebase - t).toNat ≤ c.holdLimit → exec (.holdLimitExpiry g) s = .next s)) ∧
    (∀ i : EntryIndex, s.dtt[i].state ≠ .ready ∨ s.dtt[i].expiry ≠ s.timebase →
      exec (.discardExpiry i) s = .next s) ∧
    (∀ g : Segment, (∀ e ∈ (s.queues.get g).tail, e.closeTime ≠ some s.timebase) →
      exec (.closeTime g) s = .next s) ∧
    (∀ i : SlotIndex, s.slots[i].live = false ∨ s.slots[i].idleExpiry ≠ s.timebase →
      exec (.idleExpiry i) s = .next s)

/-! ### The intake -/

/-- A lane is eligible when it is UP, has a parcel and fewer than 2 responses wait; the arbiter takes the oldest parcel
of the eligible lane it reaches first from the lane after the last granted, and takes none when no lane is eligible. -/
def Obligations.IntakeGrantsNextEligibleLane : Prop :=
  ∀ s : State,
    (∀ n : LaneId, s.lanes[n].eligible = true ↔
      s.lanes[n].state = .up ∧ s.lanes[n].rx ≠ [] ∧ s.lanes[n].waiting.length < 2) ∧
    (∀ t : Taking, nextTaking s = some t ↔
      s.lanes[t.lane].eligible = true ∧ s.lanes[t.lane].rx.head? = some t.parcel ∧
        ∀ m : LaneId, s.lanes[m].eligible = true →
          lanesPassed s.lastGranted t.lane ≤ lanesPassed s.lastGranted m) ∧
    (nextTaking s = none ↔ ∀ n : LaneId, s.lanes[n].eligible = false)

/-- The taking of a parcel removes it, makes its lane the last granted, and places exactly one response, with its tag,
behind that lane's others; no other lane's parcels or responses change. -/
def Obligations.EachTakingPlacesOneResponse : Prop :=
  ∀ (s : State) (n : LaneId) (p : Parcel), nextTaking s = some { lane := n, parcel := p } →
    ∃ (t : State) (r : Response), exec (takenBy (requestOf p)) s = .next t ∧ r.tag = tagOf p ∧ t.lastGranted = n ∧
      t.lanes[n].rx = s.lanes[n].rx.tail ∧ t.lanes[n].waiting = s.lanes[n].waiting ++ [.response r] ∧
      ∀ m : LaneId, m ≠ n → t.lanes[m].rx = s.lanes[m].rx ∧ t.lanes[m].waiting = s.lanes[m].waiting

/-- A parcel with its two header words is MALFORMED exactly when one of the nine form rules is broken; else it asks what
its header and payload carry. Its tag is read from its header. -/
def Obligations.RequestFormAndFields : Prop :=
  (∀ p : Parcel, tagOf p = p.head.extractLsb' 24 4) ∧
  (∀ (p : Parcel) (address : Word) (payload : List Word), p.rest = address :: payload →
    let kind := (p.head.extractLsb' 28 4).toNat
    let count := (p.head.extractLsb' 16 8).toNat
    let op := (p.head.extractLsb' 0 8).toNat
    (requestOf p = .malformed ↔
      (kind ≠ 1 ∧ kind ≠ 2 ∧ kind ≠ 3 ∧ kind ≠ 4) ∨ (kind = 4 ∧ (op = 0 ∨ 16 < op)) ∨
      ((kind = 1 ∨ kind = 2) ∧ (count = 0 ∨ 16 < count)) ∨ (kind = 4 ∧ 16 < count) ∨
      ((kind = 1 ∨ kind = 2) ∧ address.toNat % 4 ≠ 0) ∨
      ((kind = 1 ∨ kind = 2) ∧ 64 < address.toNat % 64 + 4 * count) ∨
      (kind = 2 ∧ ∀ i < count, (payload.getD (i / 8) 0).extractLsb' (4 * (i % 8)) 4 = 0) ∨
      ((kind = 1 ∨ kind = 3) ∧ payload ≠ []) ∨ (kind = 2 ∧ payload.length ≠ (count + 7) / 8 + count) ∨
      (kind = 4 ∧ payload.length ≠ count)) ∧
    (requestOf p ≠ .malformed →
      (kind = 1 → requestOf p = .read address count) ∧
      (kind = 2 → ∃ ws : List WriteWord, requestOf p = .write address ws ∧ ws.length = count ∧
        ∀ i < count, ws[i]? = some
          { mask := (payload.getD (i / 8) 0).extractLsb' (4 * (i % 8)) 4
            data := payload.getD ((count + 7) / 8 + i) 0 }) ∧
      (kind = 3 → requestOf p = .fence) ∧
      (kind = 4 → ∃ o : MgmtOp, MgmtOp.ofCode op = some o ∧ requestOf p = .mgmt o payload))) ∧
  (List.range 17).map MgmtOp.ofCode =
    [none, some .claim, some .release, some .openGate, some .closeGate, some .stageWindow, some .readWindow,
      some .commit, some .setParameter, some .getParameter, some .getStatus, some .logTake, some .segmentEnable,
      some .segmentDisable, some .drain, some .purgeLane, some .brokerReset]

/-- A MALFORMED parcel is refused, whatever the gate; with the gate CLOSED a READ, a WRITE and a FENCE are answered
RETRY. Nothing else changes. -/
def Obligations.FormAndGateChecks : Prop :=
  ∀ (s : State) (n : LaneId) (p : Parcel),
    (TakesRequest s n p .malformed →
      exec .malformedParcel s = .next (answered s n (responseTo p (.refused .malformed) 0 []))) ∧
    (s.gate = .closed →
      (∀ a w, TakesRequest s n p (.read a w) → exec .read s = .next (answered s n (responseTo p .retry 0 []))) ∧
      (∀ a ws, TakesRequest s n p (.write a ws) → exec .write s = .next (answered s n (responseTo p .retry 0 []))) ∧
      (TakesRequest s n p .fence → exec .fence s = .next (answered s n (responseTo p .retry 0 []))))

/-! ### Lookup and translation -/

/-- The lookup finds the valid record of lowest index whose range contains the address, and none when none does.
Translation is target base + (address − base) with no overflow of the 28 bits, and the two addresses agree in their low
12 bits, under every record that passed the checks of STAGE WINDOW. -/
def Obligations.LookupAndTranslation : Prop :=
  (∀ (bank : Vector WindowRecord 24) (a : Word),
    let hit (w : WindowRecord) : Prop :=
      w.valid = true ∧ w.base.toNat ≤ a.toNat ∧ a.toNat < w.base.toNat + 2 ^ w.sizeCode.toNat
    (∀ k : WindowIndex, lookup bank a = some k ↔ hit bank[k] ∧ ∀ j : WindowIndex, j < k → ¬hit bank[j]) ∧
    (lookup bank a = none ↔ ∀ j : WindowIndex, ¬hit bank[j])) ∧
  (∀ (w : WindowRecord) (a : Word), w.ok = true → w.contains a = true →
    (w.translate a).toNat = w.targetBase.toNat + (a.toNat - w.base.toNat) ∧ w.base.toNat ≤ a.toNat ∧
      (w.translate a).toNat % 4096 = a.toNat % 4096)

/-! ### READ and WRITE -/

/-- A READ at the next address of the lane's own slot is answered from it when it holds enough words, and RETRY with
nothing changed when it holds fewer. -/
def Obligations.ReadServedFromOwnSlot : Prop :=
  ∀ (s : State) (n : LaneId) (p : Parcel) (a : Word) (w : Nat) (i : SlotIndex),
    TakesRequest s n p (.read a w) → s.gate = .opened → ownSlot (s.currentOwner n) s = some i →
    a = s.slots[i].nextAddr →
    (w ≤ s.slots[i].held.length →
      exec .read s = .next (answered (serveSlot i w s) n (responseTo p .complete 0 (s.slots[i].held.take w)))) ∧
    (s.slots[i].held.length < w → exec .read s = .next (answered s n (responseTo p .retry 0 [])))

/-- Serving takes words from the front and renews the idle expiry; a HOLDING slot at the window end with no words
becomes EMPTY, another HOLDING slot is tested for a refill, and a FILLING slot stays so. A HOLDING slot with fewer than
16 words, and words of the window left, becomes FILLING: the refill runs to the end of its block, takes the barrier of
the queue's tail, closes that tail and goes last in the request order. -/
def Obligations.ServingAndRefillRequest : Prop :=
  ∀ (s : State) (i : SlotIndex), ItemsOnBusOk s →
    let x := s.slots[i]
    let g := x.segment
    let start := x.nextAddr.toNat + 4 * x.held.length
    (∀ w : Nat,
      let y := { x with
        held := x.held.drop w
        nextAddr := x.nextAddr + BitVec.ofNat 32 (4 * w)
        nextSegAddr := x.nextSegAddr + BitVec.ofNat 28 (4 * w)
        lastUse := s.timebase
        idleExpiry := s.timebase + BitVec.ofNat 32 s.params.streamIdle }
      (x.state = .holding → x.nextAddr.toNat + 4 * w = x.windowEnd → x.held.length ≤ w →
        ∃ z : StreamSlot, z.state = .empty ∧ serveSlot i w s = s.setSlot i z) ∧
      (x.state = .holding → x.nextAddr.toNat + 4 * w ≠ x.windowEnd ∨ w < x.held.length →
        serveSlot i w s = requestRefill i (s.setSlot i y)) ∧
      (x.state = .filling → serveSlot i w s = s.setSlot i y)) ∧
    (x.state = .holding → x.held.length < 16 → start < x.windowEnd →
      requestRefill i s = { s with
        slots := s.slots.set i { x with
          state := .filling
          refill := some
            { start := x.nextSegAddr + BitVec.ofNat 28 (4 * x.held.length)
              words := min ((64 - start % 64) / 4) ((x.windowEnd - start) / 4)
              barrier := match (s.queues.get g).tail with
                | some e => { value := some e.seq, met := false }
                | none => { value := none, met := true }
              progress := 0
              backoff := 0
              inCycle := false } }
        refillOrder := s.refillOrder.set g (s.refillOrder.get g ++ [i])
        queues := s.queues.set g (s.queues.get g).closeTail }) ∧
    (x.state ≠ .holding ∨ 16 ≤ x.held.length ∨ x.windowEnd ≤ start → requestRefill i s = s)

/-- A repeat of a request whose entry is QUEUED, ISSUED or PARTIAL is answered RETRY and leaves the entry as it is. A
repeat whose entry is READY is answered from it and frees it; a stream-flagged READ with SUCCESS asks for a slot. -/
def Obligations.RepeatsWaitOrCollect : Prop :=
  ∀ (s : State) (n : LaneId) (p : Parcel) (a : Word) (i : EntryIndex), NoDuplicateEntries s → s.gate = .opened →
    let e := s.dtt[i]
    let u := passStream n a s
    (∀ w, TakesRequest s n p (.read a w) → NotServed n a s →
      e.sameRequest (s.currentOwner n) .read a w [] = true →
      (e.waits → exec .read s = .next (answered u n (responseTo p .retry 0 []))) ∧
      (e.state = .ready → ∃ z : DttEntry, z.state = .free ∧
        (∀ f, e.outcome = .failed f →
          exec .read s = .next (answered (u.setEntry i z) n (responseTo p (.failed f) 0 []))) ∧
        (e.outcome = .success → e.streamFlag = false →
          exec .read s = .next (answered (u.setEntry i z) n (responseTo p .complete 0 e.readData))) ∧
        (e.outcome = .success → e.streamFlag = true →
          exec .read s = .next (answered (allocateSlot e.owner e.window e.segment a w (u.setEntry i z)) n
            (responseTo p .complete 0 e.readData))) ∧
        (e.outcome = .success → TransfersOk s → e.readData.length = w))) ∧
    (∀ ws, TakesRequest s n p (.write a ws) →
      e.sameRequest (s.currentOwner n) .ackedWrite a ws.length ws = true →
      (e.waits → exec .write s = .next (answered s n (responseTo p .retry 0 []))) ∧
      (e.state = .ready → ∃ z : DttEntry, z.state = .free ∧
        (∀ f, e.outcome = .failed f →
          exec .write s = .next (answered (s.setEntry i z) n (responseTo p (.failed f) 0 []))) ∧
        (e.outcome = .success →
          exec .write s = .next (answered (s.setEntry i z) n (responseTo p .complete 0 [])))))

/-- Allocation is declined at the window end and on a FAULTED segment; else it takes the owner's slot unless its refill
is in a cycle, else the lowest EMPTY slot, else the HOLDING slot of another owner with the earliest last use (row 6),
else none. The slot taken is written whole and requests its first refill. -/
def Obligations.StreamSlotAllocation : Prop :=
  ∀ (s : State) (o : Owner) (k : WindowIndex) (g : Segment) (a : Word) (w : Nat),
    let next := a + BitVec.ofNat 32 (4 * w)
    let windowEnd := s.live[k].base.toNat + 2 ^ s.live[k].sizeCode.toNat
    let fresh : StreamSlot :=
      { state := .holding, owner := o, window := k, segment := g, nextAddr := next,
        nextSegAddr := s.live[k].translate next, windowEnd := windowEnd, held := [], lastUse := s.timebase,
        idleExpiry := s.timebase + BitVec.ofNat 32 s.params.streamIdle, refill := none }
    (a.toNat + 4 * w = windowEnd ∨ (s.engine g).state = .faulted → allocateSlot o k g a w s = s) ∧
    (a.toNat + 4 * w ≠ windowEnd → (s.engine g).state ≠ .faulted →
      (∀ i, ownSlot o s = some i → s.slots[i].inCycle = false →
        allocateSlot o k g a w s = requestRefill i (s.setSlot i fresh)) ∧
      (∀ v : State, (ownSlot o s = none ∧ v = s) ∨
          (∃ i, ownSlot o s = some i ∧ s.slots[i].inCycle = true ∧ v = dropSlot i s) →
        (∀ j, chooseSlot o v = some j → allocateSlot o k g a w s = requestRefill j (v.setSlot j fresh)) ∧
        (chooseSlot o v = none → allocateSlot o k g a w s = v))) ∧
    (∀ j : SlotIndex, chooseSlot o s = some j ↔
      (s.slots[j].state = .empty ∧ ∀ i : SlotIndex, i < j → s.slots[i].state ≠ .empty) ∨
      ((∀ i : SlotIndex, s.slots[i].state ≠ .empty) ∧ s.slots[j].state = .holding ∧ s.slots[j].owner ≠ o ∧
        ∀ i : SlotIndex, s.slots[i].state = .holding → s.slots[i].owner ≠ o →
          (s.timebase - s.slots[i].lastUse).toNat < (s.timebase - s.slots[j].lastUse).toNat ∨
          (s.timebase - s.slots[i].lastUse).toNat = (s.timebase - s.slots[j].lastUse).toNat ∧ j ≤ i))

/-- A READ or WRITE without a matching entry is refused NO-WINDOW, DENIED, NOT-READABLE or NOT-WRITABLE, or answered
FAILED SEGMENT-DOWN, by the first check that answers it; nothing changes beyond the drop of R27. -/
def Obligations.ChecksRefuseInOrder : Prop :=
  ∀ (s : State) (n : LaneId) (p : Parcel) (a : Word), s.gate = .opened →
    (∀ w, TakesRequest s n p (.read a w) → NotServed n a s → matchEntry (s.currentOwner n) .read a w [] s = none →
      let u := passStream n a s
      (lookup s.live a = none → exec .read s = .next (answered u n (responseTo p (.refused .noWindow) 0 []))) ∧
      (∀ k, lookup s.live a = some k →
        (s.live[k].readLanes.getLsbD n.val = false →
          exec .read s = .next (answered u n (responseTo p (.refused .denied) 0 []))) ∧
        (s.live[k].readLanes.getLsbD n.val = true → s.live[k].readMode = .none →
          exec .read s = .next (answered u n (responseTo p (.refused .notReadable) 0 []))) ∧
        (s.live[k].readLanes.getLsbD n.val = true → s.live[k].readMode ≠ .none →
          (s.engine s.live[k].segment).state = .faulted →
          exec .read s = .next (answered u n (responseTo p (.failed .segmentDown) 0 []))))) ∧
    (∀ ws, TakesRequest s n p (.write a ws) → matchEntry (s.currentOwner n) .ackedWrite a ws.length ws s = none →
      (lookup s.live a = none → exec .write s = .next (answered s n (responseTo p (.refused .noWindow) 0 []))) ∧
      (∀ k, lookup s.live a = some k →
        (s.live[k].writeLanes.getLsbD n.val = false →
          exec .write s = .next (answered s n (responseTo p (.refused .denied) 0 []))) ∧
        (s.live[k].writeLanes.getLsbD n.val = true → s.live[k].writeMode = .none →
          exec .write s = .next (answered s n (responseTo p (.refused .notWritable) 0 []))) ∧
        (s.live[k].writeLanes.getLsbD n.val = true → s.live[k].writeMode ≠ .none →
          (s.engine s.live[k].segment).state = .faulted →
          exec .write s = .next (answered s n (responseTo p (.failed .segmentDown) 0 [])))))

/-- An admitted READ, and an admitted WRITE to an ACKED window, are answered RETRY. With a FREE entry and the owner
below QUOTA the FREE entry of lowest index becomes QUEUED with the request, the creation number and the barrier of the
queue's tail, the tail is closed and the creation counter advances; the ACKED write drops the window's slots. Else
nothing is created. -/
def Obligations.DeferredRequestCreatesEntry : Prop :=
  ∀ (s : State) (n : LaneId) (p : Parcel) (a : Word) (k : WindowIndex), s.gate = .opened →
    let o := s.currentOwner n
    let g := s.live[k].segment
    let barrier : Barrier := match (s.queues.get g).tail with
      | some e => { value := some e.seq, met := false }
      | none => { value := none, met := true }
    let entry (kind : EntryKind) (words : Nat) (ws : List WriteWord) (flag : Bool) (z : DttEntry) : DttEntry :=
      { state := .queued, owner := o, kind := kind, address := a, words := words, writeWords := ws,
        streamFlag := flag, window := k, segment := g, segAddr := s.live[k].translate a,
        creation := s.creationCounter, barrier := barrier, progress := 0, backoff := 0, outcome := z.outcome,
        readData := [], expiry := z.expiry }
    let created (i : EntryIndex) (e : DttEntry) (u : State) : State :=
      { (closeTail g u) with dtt := s.dtt.set i e, creationCounter := s.creationCounter + 1 }
    (∀ w, TakesRequest s n p (.read a w) → NotServed n a s → matchEntry o .read a w [] s = none →
      Admitted s n .read a k →
      (∀ i : EntryIndex, s.dtt[i].state = .free → (∀ j : EntryIndex, j < i → s.dtt[j].state ≠ .free) →
        quotaCount o s < s.params.quota →
        ∃ z : DttEntry, exec .read s = .next (answered
          (created i (entry .read w [] (s.live[k].readMode = .stream) z) (passStream n a s)) n
          (responseTo p .retry 0 []))) ∧
      ((∀ i : EntryIndex, s.dtt[i].state ≠ .free) ∨ s.params.quota ≤ quotaCount o s →
        exec .read s = .next (answered (passStream n a s) n (responseTo p .retry 0 [])))) ∧
    (∀ ws, TakesRequest s n p (.write a ws) → matchEntry o .ackedWrite a ws.length ws s = none →
      Admitted s n .write a k → s.live[k].writeMode = .acked →
      (∀ i : EntryIndex, s.dtt[i].state = .free → (∀ j : EntryIndex, j < i → s.dtt[j].state ≠ .free) →
        quotaCount o s < s.params.quota →
        ∃ z : DttEntry, exec .write s = .next (answered
          (dropWindow k (created i (entry .ackedWrite ws.length ws false z) s)) n (responseTo p .retry 0 []))) ∧
      ((∀ i : EntryIndex, s.dtt[i].state ≠ .free) ∨ s.params.quota ≤ quotaCount o s →
        exec .write s = .next (answered s n (responseTo p .retry 0 []))))

/-- An admitted WRITE to a POSTED window joins the open tail when it meets the merge conditions, else makes a new tail
when the queue holds fewer than 32 entries, else is answered RETRY with nothing changed. An accepted write drops the
window's slots. -/
def Obligations.PostedWriteMergesOrQueues : Prop :=
  ∀ (s : State) (n : LaneId) (p : Parcel) (a : Word) (ws : List WriteWord) (k : WindowIndex),
    s.gate = .opened → TakesRequest s n p (.write a ws) →
    matchEntry (s.currentOwner n) .ackedWrite a ws.length ws s = none → Admitted s n .write a k →
    s.live[k].writeMode = .posted →
    let g := s.live[k].segment
    let q := s.queues.get g
    let sa := s.live[k].translate a
    let entry : QueueEntry :=
      { owner := s.currentOwner n, window := k, segAddr := sa, writeWords := ws, seq := q.counter + 1,
        closeTime :=
          if s.params.mergeWindow = 0 ∨ s.live[k].merge = false ∨ fills sa ws.length = true then none
          else some (s.timebase + BitVec.ofNat 32 s.params.mergeWindow),
        progress := 0, backoff := 0 }
    (∀ e ∈ q.tail, MayMerge s n k sa ws e →
      exec .write s = .next (answered (dropWindow k (s.setQueue g { q with
        entries := q.entries.dropLast ++ [{ e with
          writeWords := e.writeWords ++ ws
          closeTime := if fills e.segAddr (e.writeWords.length + ws.length) = true then none else e.closeTime }] }))
        n (responseTo p .complete 0 []))) ∧
    ((∀ e ∈ q.tail, ¬MayMerge s n k sa ws e) → q.entries.length < 32 →
      exec .write s = .next (answered (dropWindow k (s.setQueue g
        { entries := q.closeTail.entries ++ [entry], counter := q.counter + 1, retired := q.retired }))
        n (responseTo p .complete 0 []))) ∧
    ((∀ e ∈ q.tail, ¬MayMerge s n k sa ws e) → 32 ≤ q.entries.length →
      exec .write s = .next (answered s n (responseTo p .retry 0 [])))

/-! ### FENCE and DRAIN -/

/-- A FENCE without a record and without outstanding writes, and one whose record is met, is answered COMPLETE with the
lane's count, which is cleared with the record; a FENCE that finds outstanding writes makes a record on the owner's
newest entries and closes both tails; one whose record is not met changes nothing. -/
def Obligations.FenceAnswers : Prop :=
  ∀ (s : State) (n : LaneId) (p : Parcel), s.gate = .opened → TakesRequest s n p .fence →
    let own (q : PostedQueue) : List QueueEntry := q.entries.filter fun e => e.owner = s.currentOwner n
    let barrier (q : PostedQueue) : Barrier := match (own q).getLast? with
      | some e => { value := some e.seq, met := false }
      | none => { value := none, met := true }
    let done := answered { s with fences := s.fences.set n none, failedWrites := s.failedWrites.set n 0 } n
      (responseTo p .complete (BitVec.ofNat 16 s.failedWrites[n]) [])
    (s.fences[n] = none → own s.queues.a = [] → own s.queues.b = [] → exec .fence s = .next done) ∧
    (s.fences[n] = none → own s.queues.a ≠ [] ∨ own s.queues.b ≠ [] →
      exec .fence s = .next (answered { s with
        fences := s.fences.set n (some { a := barrier s.queues.a, b := barrier s.queues.b })
        queues := { a := s.queues.a.closeTail, b := s.queues.b.closeTail } } n (responseTo p .retry 0 []))) ∧
    (∀ r, s.fences[n] = some r → r.a.met = true → r.b.met = true → exec .fence s = .next done) ∧
    (∀ r, s.fences[n] = some r → r.a.met = false ∨ r.b.met = false →
      exec .fence s = .next (answered s n (responseTo p .retry 0 [])))

/-- DRAIN, after the refusals of R164, from the manager: COMPLETE when there is no record and both queues are empty, or
when the record is met, which frees it; RETRY with a new record on both tails, which are closed; RETRY with nothing
changed while the record is not met. -/
def Obligations.DrainAnswers : Prop :=
  ∀ (s : State) (n : LaneId) (p : Parcel) (args : List Word), TakesMgmt s n p .drain args →
    RefusedFirst .drain s n p args ∧ (s.manager = some n → args = [] →
    let barrier (q : PostedQueue) : Barrier := match q.tail with
      | some e => { value := some e.seq, met := false }
      | none => { value := none, met := true }
    (s.drain = none → s.queues.a.entries = [] → s.queues.b.entries = [] →
      exec .drain s = .next (answered s n (responseTo p .complete 0 []))) ∧
    (s.drain = none → s.queues.a.entries ≠ [] ∨ s.queues.b.entries ≠ [] →
      exec .drain s = .next (answered { s with
        drain := some { a := barrier s.queues.a, b := barrier s.queues.b }
        queues := { a := s.queues.a.closeTail, b := s.queues.b.closeTail } } n (responseTo p .retry 0 []))) ∧
    (∀ r, s.drain = some r → r.a.met = true → r.b.met = true →
      exec .drain s = .next (answered { s with drain := none } n (responseTo p .complete 0 []))) ∧
    (∀ r, s.drain = some r → r.a.met = false ∨ r.b.met = false →
      exec .drain s = .next (answered s n (responseTo p .retry 0 []))))

/-- When the entry numbered b leaves queue g, every barrier on that queue that names b is met, and no other barrier and
nothing else changes. Closing a tail removes the close time of the newest entry and nothing else. A failed or
discarded entry adds one to its owner's count, up to 255, when the owner is the card now on its lane. -/
def Obligations.LeavingClosureAndFailedCount : Prop :=
  (∀ (g : Segment) (b : Seq) (s : State),
    let met (h : Segment) (x y : Barrier) : Prop :=
      if h = g ∧ x.value = some b then y = { value := x.value, met := true } else y = x
    ∃ t : State, meetBarriers g b s = t ∧
      t = { s with dtt := t.dtt, slots := t.slots, fences := t.fences, drain := t.drain } ∧
      (∀ i : EntryIndex, t.dtt[i] = { s.dtt[i] with barrier := t.dtt[i].barrier } ∧
        met s.dtt[i].segment s.dtt[i].barrier t.dtt[i].barrier) ∧
      (∀ i : SlotIndex, t.slots[i] = { s.slots[i] with refill := t.slots[i].refill } ∧
        t.slots[i].refill.isSome = s.slots[i].refill.isSome ∧
        ∀ x ∈ s.slots[i].refill, ∀ y ∈ t.slots[i].refill,
          y = { x with barrier := y.barrier } ∧ met s.slots[i].segment x.barrier y.barrier) ∧
      (∀ n : LaneId, t.fences[n].isSome = s.fences[n].isSome ∧
        ∀ x ∈ s.fences[n], ∀ y ∈ t.fences[n], met .a x.a y.a ∧ met .b x.b y.b) ∧
      t.drain.isSome = s.drain.isSome ∧ ∀ x ∈ s.drain, ∀ y ∈ t.drain, met .a x.a y.a ∧ met .b x.b y.b) ∧
  (∀ q : PostedQueue, q.closeTail = { q with entries := q.closeTail.entries } ∧
    (q.entries = [] → q.closeTail.entries = []) ∧
    ∀ e ∈ q.tail, q.closeTail.entries = q.entries.dropLast ++ [{ e with closeTime := none }]) ∧
  (∀ (o : Owner) (s : State),
    (s.present o = true → countFailedWrite o s =
      { s with failedWrites := s.failedWrites.set o.lane (min (s.failedWrites[o.lane] + 1) 255) }) ∧
    (s.present o = false → countFailedWrite o s = s))

/-! ### Management -/

/-- The role check comes before the argument count: an operation other than CLAIM and GET STATUS from a lane that is
not the manager is refused NOT-MANAGER with info 0, whatever its arguments. With the role check passed, a wrong number
of argument words is refused BAD-ARGUMENT. Nothing else changes. -/
def Obligations.RoleAndArgumentCountChecks : Prop :=
  ∀ (s : State) (n : LaneId) (p : Parcel) (op : MgmtOp) (args : List Word), TakesMgmt s n p op args →
    (op ≠ .claim → op ≠ .getStatus → s.manager ≠ some n →
      exec (commandOf op) s = .next (answered s n (responseTo p (.refused .notManager) 0 []))) ∧
    (op = .getStatus ∨ s.manager = some n ∨ op = .claim ∧ s.manager = none → args.length ≠ op.argCount →
      exec (commandOf op) s = .next (answered s n (responseTo p (.refused .badArgument) 0 [])))

/-- CLAIM by its table: the role is taken when it is free, kept by the lane that holds it, and refused with the
manager's number while another lane holds it; with argument words it is refused BAD-ARGUMENT. -/
def Obligations.ClaimTable : Prop :=
  ∀ (s : State) (n : LaneId) (p : Parcel) (args : List Word), TakesMgmt s n p .claim args →
    (s.manager = none ∨ s.manager = some n → args = [] →
      exec .claim s = .next (answered { s with manager := some n } n (responseTo p .complete 0 []))) ∧
    (s.manager = none ∨ s.manager = some n → args ≠ [] →
      exec .claim s = .next (answered s n (responseTo p (.refused .badArgument) 0 []))) ∧
    (∀ m, m ≠ n → s.manager = some m →
      exec .claim s = .next (answered s n (responseTo p (.refused .notManager) (BitVec.ofNat 16 m.val) [])))

/-- RELEASE from the manager ends the role: no manager, alert outstanding no, no drain record. From another lane it is
refused NOT-MANAGER, and with argument words BAD-ARGUMENT, and the role stays. -/
def Obligations.ReleaseEndsRole : Prop :=
  ∀ (s : State) (n : LaneId) (p : Parcel) (args : List Word), TakesMgmt s n p .release args →
    (s.manager = some n → args = [] →
      exec .release s = .next (answered
        { s with manager := none, drain := none, log := { s.log with alertOutstanding := false } } n
        (responseTo p .complete 0 []))) ∧
    (s.manager = some n → args ≠ [] →
      exec .release s = .next (answered s n (responseTo p (.refused .badArgument) 0 []))) ∧
    (s.manager ≠ some n → exec .release s = .next (answered s n (responseTo p (.refused .notManager) 0 [])))

/-- OPEN and CLOSE, after the refusals of R164, set the gate and answer COMPLETE whether or not it changed. -/
def Obligations.OpenAndCloseSetTheGate : Prop :=
  ∀ (s : State) (n : LaneId) (p : Parcel) (args : List Word),
    (TakesMgmt s n p .openGate args → RefusedFirst .openGate s n p args ∧ (s.manager = some n → args = [] →
      exec .openGate s = .next (answered { s with gate := .opened } n (responseTo p .complete 0 [])))) ∧
    (TakesMgmt s n p .closeGate args → RefusedFirst .closeGate s n p args ∧ (s.manager = some n → args = [] →
      exec .closeGate s = .next (answered { s with gate := .closed } n (responseTo p .complete 0 []))))

/-- STAGE WINDOW, after the refusals of R164, stores the cleared record when valid = no, the record its words carry when
they pass every check, and else refuses BAD-ARGUMENT. READ WINDOW returns the four words of the record at an index of a
bank and changes no state; an index of 24 or more or another bank code is refused. -/
def Obligations.StageAndReadWindow : Prop :=
  ∀ (s : State) (n : LaneId) (p : Parcel),
    (∀ args, TakesMgmt s n p .stageWindow args → RefusedFirst .stageWindow s n p args) ∧
    (∀ args, TakesMgmt s n p .readWindow args → RefusedFirst .readWindow s n p args) ∧ (s.manager = some n →
    (∀ i w0 w1 w2 w3 : Word, TakesMgmt s n p .stageWindow [i, w0, w1, w2, w3] →
      (∀ k : WindowIndex, i.toNat = k.val → w0.getLsbD 31 = false →
        exec .stageWindow s = .next (answered { s with staged := s.staged.set k WindowRecord.cleared } n
          (responseTo p .complete 0 []))) ∧
      (∀ k : WindowIndex, i.toNat = k.val → w0.getLsbD 31 = true → RecordWordsOk w0 w1 w2 w3 →
        ∃ r : WindowRecord, r.Carries w0 w1 w2 w3 ∧
          exec .stageWindow s = .next (answered { s with staged := s.staged.set k r } n
            (responseTo p .complete 0 []))) ∧
      (24 ≤ i.toNat ∨ w0.getLsbD 31 = true ∧ ¬RecordWordsOk w0 w1 w2 w3 →
        exec .stageWindow s = .next (answered s n (responseTo p (.refused .badArgument) 0 [])))) ∧
    (∀ i b : Word, TakesMgmt s n p .readWindow [i, b] →
      (∀ k : WindowIndex, i.toNat = k.val →
        (b = 0 → exec .readWindow s = .next (answered s n (responseTo p .complete 0 s.staged[k].toWords))) ∧
        (b = 1 → exec .readWindow s = .next (answered s n (responseTo p .complete 0 s.live[k].toWords)))) ∧
      (24 ≤ i.toNat ∨ 2 ≤ b.toNat →
        exec .readWindow s = .next (answered s n (responseTo p (.refused .badArgument) 0 [])))))

/-- The words that READ WINDOW gives for a record that a bank may hold are words that STAGE WINDOW reads as that
record. -/
def Obligations.WindowRecordWordsRoundTrip : Prop :=
  ∀ w : WindowRecord, w.ok = true → ∃ w0 w1 w2 w3 : Word,
    w.toWords = [w0, w1, w2, w3] ∧ WindowRecord.ofWords w0 w1 w2 w3 = some w ∧ w.Carries w0 w1 w2 w3

/-- COMMIT, after the refusals of R164: LIVE becomes STAGED, the generation advances and is the response's info, every
QUEUED entry becomes FREE and every other entry loses its stream flag, every slot is dropped, and both tails are closed.
-/
def Obligations.CommitEffects : Prop :=
  ∀ (s : State) (n : LaneId) (p : Parcel) (args : List Word), TakesMgmt s n p .commit args →
    RefusedFirst .commit s n p args ∧ (s.manager = some n → args = [] →
    ∃ u : State, exec .commit s = .next (answered u n (responseTo p .complete (s.generation + 1) [])) ∧
      u = { s with
        live := s.staged
        generation := s.generation + 1
        dtt := u.dtt
        slots := u.slots
        refillOrder := keptOrder u.slots s.refillOrder
        queues := { a := s.queues.a.closeTail, b := s.queues.b.closeTail } } ∧
      (∀ i : EntryIndex, (s.dtt[i].state = .free ∨ s.dtt[i].state = .queued → u.dtt[i].state = .free) ∧
        (s.dtt[i].state ≠ .free → s.dtt[i].state ≠ .queued → u.dtt[i] = { s.dtt[i] with streamFlag := false })) ∧
      ∀ i : SlotIndex, s.slots[i].DroppedTo u.slots[i])

/-- After the refusals of R164, GET PARAMETER answers the parameter's value. SET PARAMETER replaces a value by one in
its range; a change of ALERTS from off to on is a trigger when the log holds records, a change from on to off sets alert
outstanding to no. A number above 9 or a value out of range is refused BAD-ARGUMENT. -/
def Obligations.ParametersReadAndSet : Prop :=
  ∀ (s : State) (n : LaneId) (p : Parcel),
    (∀ args, TakesMgmt s n p .getParameter args → RefusedFirst .getParameter s n p args) ∧
    (∀ args, TakesMgmt s n p .setParameter args → RefusedFirst .setParameter s n p args) ∧ (s.manager = some n →
    (∀ k : Word, TakesMgmt s n p .getParameter [k] →
      (∀ v, s.params.values[k.toNat]? = some v →
        exec .getParameter s = .next (answered s n (responseTo p .complete 0 [BitVec.ofNat 32 v]))) ∧
      (10 ≤ k.toNat → exec .getParameter s = .next (answered s n (responseTo p (.refused .badArgument) 0 [])))) ∧
    (∀ k v : Word, TakesMgmt s n p .setParameter [k, v] →
      (ParameterOk k.toNat v.toNat → ∃ q : Parameters, q.values = s.params.values.set k.toNat v.toNat ∧
        (s.params.alerts = q.alerts →
          exec .setParameter s = .next (answered { s with params := q } n (responseTo p .complete 0 []))) ∧
        (s.params.alerts = false → q.alerts = true → s.log.records = [] →
          exec .setParameter s = .next (answered { s with params := q } n (responseTo p .complete 0 []))) ∧
        (s.params.alerts = false → q.alerts = true → s.log.records ≠ [] →
          exec .setParameter s =
            .next (alertTrigger (answered { s with params := q } n (responseTo p .complete 0 [])))) ∧
        (s.params.alerts = true → q.alerts = false →
          exec .setParameter s = .next (answered
            { s with params := q, log := { s.log with alertOutstanding := false } } n
            (responseTo p .complete 0 [])))) ∧
      (¬ParameterOk k.toNat v.toNat →
        exec .setParameter s = .next (answered s n (responseTo p (.refused .badArgument) 0 [])))))

/-- GET STATUS from any lane answers the six words of the status result, all read at the taking, and changes no
state; with argument words it is refused BAD-ARGUMENT. -/
def Obligations.GetStatusResult : Prop :=
  ∀ (s : State) (n : LaneId) (p : Parcel) (args : List Word), TakesMgmt s n p .getStatus args →
    (args ≠ [] → exec .getStatus s = .next (answered s n (responseTo p (.refused .badArgument) 0 []))) ∧
    (args = [] → QueuesOk s → LogOk s → CountsOk s → ∃ d0 d1 d2 d3 d4 d5 : Word,
      exec .getStatus s = .next (answered s n (responseTo p .complete 0 [d0, d1, d2, d3, d4, d5])) ∧
      (d0.extractLsb' 16 16 = s.generation ∧ d0.getLsbD 8 = decide (s.gate = .opened) ∧
        (d0.extractLsb' 0 4).toNat = (s.manager.map Fin.val).getD 15) ∧
      ((d1.extractLsb' 0 5).toNat = s.entriesIn .free ∧ (d1.extractLsb' 5 5).toNat = s.entriesIn .queued ∧
        (d1.extractLsb' 10 5).toNat = s.entriesIn .issued ∧ (d1.extractLsb' 15 5).toNat = s.entriesIn .partly ∧
        (d1.extractLsb' 20 5).toNat = s.entriesIn .ready ∧ (d1.extractLsb' 25 5).toNat = s.entriesIn .abandoned) ∧
      (d2.getLsbD 31 = s.log.alertOutstanding ∧
        (∀ i : SlotIndex, (d2.extractLsb' (20 + 2 * i.val) 2).toNat = s.slots[i].state.code) ∧
        (d2.extractLsb' 18 2).toNat = s.engines.b.state.code ∧ (d2.extractLsb' 16 2).toNat = s.engines.a.state.code ∧
        (d2.extractLsb' 8 6).toNat = s.queues.b.entries.length ∧
        (d2.extractLsb' 0 6).toNat = s.queues.a.entries.length) ∧
      ((d3.extractLsb' 16 7).toNat = s.log.records.length ∧ (d3.extractLsb' 8 8).toNat = s.engines.b.failures ∧
        (d3.extractLsb' 0 8).toNat = s.engines.a.failures) ∧
      ((d4.extractLsb' 16 16).toNat = s.log.lost ∧
        ∀ m : LaneId, d4.getLsbD m.val = decide (s.lanes[m].state = .up)) ∧
      d5 = s.timebase)

/-- LOG TAKE, after the refusals of R164, removes the oldest four records or as many as there are, answers them with the
lost count in info, clears the lost count and alert outstanding, and is a trigger when records are left. -/
def Obligations.LogTakeRemovesFour : Prop :=
  ∀ (s : State) (n : LaneId) (p : Parcel) (args : List Word), TakesMgmt s n p .logTake args →
    RefusedFirst .logTake s n p args ∧ (s.manager = some n → args = [] →
    let u := answered { s with
        log := { records := s.log.records.drop 4, counter := s.log.counter, lost := 0, alertOutstanding := false } } n
      (responseTo p .complete (BitVec.ofNat 16 s.log.lost) ((s.log.records.take 4).flatMap LogRecord.toWords))
    (s.log.records.length ≤ 4 → exec .logTake s = .next u) ∧
    (4 < s.log.records.length → exec .logTake s = .next (alertTrigger u)))

/-- After the refusals of R164, SEGMENT ENABLE makes a DISABLED or FAULTED segment ENABLED with count 0 and leaves an
ENABLED one as it is; SEGMENT DISABLE makes a segment DISABLED and keeps its count; a code that names no segment is
refused BAD-ARGUMENT. -/
def Obligations.SegmentEnableAndDisable : Prop :=
  ∀ (s : State) (n : LaneId) (p : Parcel),
    (∀ args, TakesMgmt s n p .segmentEnable args → RefusedFirst .segmentEnable s n p args) ∧
    (∀ args, TakesMgmt s n p .segmentDisable args → RefusedFirst .segmentDisable s n p args) ∧
    (∀ w : Word, s.manager = some n →
    (∀ g : Segment, w.toNat = segmentCode g →
      (TakesMgmt s n p .segmentEnable [w] → (s.engine g).state ≠ .enabled →
        exec .segmentEnable s = .next (answered
          { s with engines := s.engines.set g { s.engine g with state := .enabled, failures := 0 } } n
          (responseTo p .complete 0 []))) ∧
      (TakesMgmt s n p .segmentEnable [w] → (s.engine g).state = .enabled →
        exec .segmentEnable s = .next (answered s n (responseTo p .complete 0 []))) ∧
      (TakesMgmt s n p .segmentDisable [w] →
        exec .segmentDisable s = .next (answered
          { s with engines := s.engines.set g { s.engine g with state := .disabled } } n
          (responseTo p .complete 0 [])))) ∧
    (2 ≤ w.toNat →
      (TakesMgmt s n p .segmentEnable [w] →
        exec .segmentEnable s = .next (answered s n (responseTo p (.refused .badArgument) 0 []))) ∧
      (TakesMgmt s n p .segmentDisable [w] →
        exec .segmentDisable s = .next (answered s n (responseTo p (.refused .badArgument) 0 [])))))

/-- PURGE LANE, after the refusals of R164, of a lane that is not the manager advances its epoch, releases its entries,
drops its slots, frees its fence record and clears its count; the records follow, and then the trigger. Naming the
manager lane or a number above 14 is refused BAD-ARGUMENT. -/
def Obligations.PurgeLaneEffects : Prop :=
  ∀ (s : State) (n : LaneId) (p : Parcel),
    (∀ args, TakesMgmt s n p .purgeLane args → RefusedFirst .purgeLane s n p args) ∧
    (∀ w : Word, s.manager = some n → TakesMgmt s n p .purgeLane [w] →
    (∀ m : LaneId, w.toNat = m.val → m ≠ n →
      let recs := workAbandonedOf (fun e => e.owner.lane = m) s
      ∃ u : State,
        exec .purgeLane s = .next (triggeredBy recs (answered u n (responseTo p .complete 0 []))) ∧
        u = { s with
          lanes := s.lanes.set m { s.lanes[m] with epoch := s.lanes[m].epoch + 1 }
          dtt := u.dtt
          slots := u.slots
          refillOrder := keptOrder u.slots s.refillOrder
          fences := s.fences.set m none
          failedWrites := s.failedWrites.set m 0
          log := s.logAfter recs } ∧
        (∀ i : EntryIndex, (s.dtt[i].owner.lane = m → s.dtt[i].ReleasedTo u.dtt[i]) ∧
          (s.dtt[i].owner.lane ≠ m → u.dtt[i] = s.dtt[i])) ∧
        (∀ i : SlotIndex, (s.slots[i].owner.lane = m → s.slots[i].DroppedTo u.slots[i]) ∧
          (s.slots[i].owner.lane ≠ m → u.slots[i] = s.slots[i]))) ∧
    (w.toNat = n.val ∨ 15 ≤ w.toNat →
      exec .purgeLane s = .next (answered s n (responseTo p (.refused .badArgument) 0 []))))

/-- BROKER RESET, after the refusals of R164: both queues discard every entry and count them, every entry is released,
every slot is dropped, the fence records and the drain record are freed, both consecutive-failure counts become 0 and
the gate closes; the records go to the log in the order A's drop, B's drop, abandoned writes, and then the trigger
follows. -/
def Obligations.BrokerResetEffects : Prop :=
  ∀ (s : State) (n : LaneId) (p : Parcel) (args : List Word), TakesMgmt s n p .brokerReset args →
    RefusedFirst .brokerReset s n p args ∧ (s.manager = some n → args = [] → CountsOk s →
    let dropped (g : Segment) (q : PostedQueue) : List RecordBody :=
      if q.entries = [] then []
      else [{ kind := .writesDropped, segment := some g, cause := some .brokerReset, count := some q.entries.length }]
    let recs := dropped .a s.queues.a ++ dropped .b s.queues.b ++ workAbandonedOf (fun _ => true) s
    ∃ u : State,
      exec .brokerReset s = .next (triggeredBy recs (answered u n (responseTo p .complete 0 []))) ∧
      u = { s with
        dtt := u.dtt
        queues :=
          { a := { s.queues.a with entries := [], retired := s.queues.a.counter }
            b := { s.queues.b with entries := [], retired := s.queues.b.counter } }
        fences := Vector.replicate 15 none
        drain := none
        failedWrites := u.failedWrites
        slots := u.slots
        refillOrder := keptOrder u.slots s.refillOrder
        engines := { a := { s.engines.a with failures := 0 }, b := { s.engines.b with failures := 0 } }
        gate := .closed
        log := s.logAfter recs } ∧
      (∀ m : LaneId,
        u.failedWrites[m] = min (s.failedWrites[m] + s.chargedTo m s.queues.a + s.chargedTo m s.queues.b) 255) ∧
      (∀ i : EntryIndex,
        (s.dtt[i].state = .issued ∨ s.dtt[i].state = .abandoned →
          u.dtt[i] = { s.dtt[i] with state := .abandoned, barrier := u.dtt[i].barrier } ∧
            u.dtt[i].barrier.value = s.dtt[i].barrier.value) ∧
        (s.dtt[i].state ≠ .issued → s.dtt[i].state ≠ .abandoned → u.dtt[i].state = .free)) ∧
      ∀ i : SlotIndex,
        (s.slots[i].state = .retiring ∨ s.slots[i].state = .filling ∧ s.slots[i].inCycle = true →
          u.slots[i].state = .retiring ∧ u.slots[i].owner = s.slots[i].owner ∧
            u.slots[i].segment = s.slots[i].segment ∧ u.slots[i].window = s.slots[i].window) ∧
        (s.slots[i].state ≠ .retiring → s.slots[i].state ≠ .filling ∨ s.slots[i].inCycle = false →
          u.slots[i].state = .empty))

/-! ### The segment engines -/

/-- The arbiter: W when the occupancy has reached HIGH-WATER; of W and F both ready the one not granted last; the only
one ready of the two; R when neither is; and what makes each candidate. -/
def Obligations.WorkArbiterTable : Prop :=
  ∀ (s : State) (g : Segment), (s.engine g).cycle = none →
    (∀ e : QueueEntry, candidateW g s = some e ↔ (s.queues.get g).entries.head? = some e ∧ e.closeTime = none) ∧
    (∀ i : EntryIndex, candidateF g s = some i ↔ OldestGrantable s g i) ∧
    (∀ i : EntryIndex, s.dtt[i].grantable g = true ↔ s.dtt[i].segment = g ∧
      (s.dtt[i].state = .queued ∧ s.dtt[i].barrier.met = true ∨ s.dtt[i].state = .partly)) ∧
    (∀ i : SlotIndex, candidateR g s = some i ↔ ∃ l r : List SlotIndex, s.refillOrder.get g = l ++ i :: r ∧
      (∀ j ∈ l, s.slots[j].grantable = false) ∧ s.slots[i].state = .filling ∧
      ∃ x, s.slots[i].refill = some x ∧ x.inCycle = false ∧ x.barrier.met = true) ∧
    (∀ e, candidateW g s = some e → s.params.highWater ≤ (s.queues.get g).entries.length →
      arbiter g s = some (.queueEntry e.seq)) ∧
    (∀ e i, candidateW g s = some e → candidateF g s = some i →
      (s.queues.get g).entries.length < s.params.highWater →
      ((s.engine g).lastWF = .w → arbiter g s = some (.dttEntry i)) ∧
      ((s.engine g).lastWF = .f → arbiter g s = some (.queueEntry e.seq))) ∧
    (∀ e, candidateW g s = some e → candidateF g s = none → arbiter g s = some (.queueEntry e.seq)) ∧
    (∀ i, candidateW g s = none → candidateF g s = some i → arbiter g s = some (.dttEntry i)) ∧
    (candidateW g s = none → candidateF g s = none → arbiter g s = (candidateR g s).map WorkItem.streamSlot)

/-- A grant, taken by an IDLE engine of an ENABLED segment for the arbiter's choice, makes the engine BUSY with the
item's remainder and marks the item as on the bus; a grant of W or F is remembered, a grant of R is not. -/
def Obligations.GrantStartsTheCycle : Prop :=
  ∀ (s : State) (g : Segment), (s.engine g).cycle = none → (s.engine g).state = .enabled →
    let select (item : WorkItem) (kind : CycleKind) (a : SegAddr) (words : Nat) (ws : List WriteWord) (backoff : Nat) :
        Cycle :=
      { item := item, kind := kind, segAddr := a, words := words, writeWords := ws, backoffAtGrant := backoff,
        holdLimit := s.params.holdLimit g, phase := .claim s.timebase, passed := 0, readData := [], badWord := false }
    (∀ e, (s.queues.get g).entries.head? = some e → arbiter g s = some (.queueEntry e.seq) →
      exec (.grant g) s = .next { s with engines := s.engines.set g { s.engine g with
        lastWF := .w
        cycle := some (select (.queueEntry e.seq) .write (e.segAddr + BitVec.ofNat 28 (4 * e.progress))
          (e.writeWords.length - e.progress) (e.writeWords.drop e.progress) e.backoff) } }) ∧
    (∀ i : EntryIndex, arbiter g s = some (.dttEntry i) →
      exec (.grant g) s = .next { s with
        dtt := s.dtt.set i { s.dtt[i] with state := .issued }
        engines := s.engines.set g { s.engine g with
          lastWF := .f
          cycle := some (select (.dttEntry i) (if s.dtt[i].kind = .read then .read else .write)
            (s.dtt[i].segAddr + BitVec.ofNat 28 (4 * s.dtt[i].progress)) (s.dtt[i].words - s.dtt[i].progress)
            (s.dtt[i].writeWords.drop s.dtt[i].progress) s.dtt[i].backoff) } }) ∧
    (∀ (i : SlotIndex) (r : PendingRefill), s.slots[i].refill = some r → arbiter g s = some (.streamSlot i) →
      ItemsOnBusOk s →
      exec (.grant g) s = .next { s with
        slots := s.slots.set i { s.slots[i] with refill := some { r with inCycle := true } }
        engines := s.engines.set g { s.engine g with
          cycle := some (select (.streamSlot i) .read (r.start + BitVec.ofNat 28 (4 * r.progress))
            (r.words - r.progress) [] r.backoff) } })

/-- A claim within the claim limit (row 3) starts the data phase. A word within the hold limit passes while fewer than
n have passed: the next boundary is reached now, and in a READ cycle the word is taken and its parity checked. The
parity of a word is odd in each byte, and a word with a byte in error is a bad word. -/
def Obligations.ClaimWordsAndParity : Prop :=
  (∀ (s : State) (g : Segment) (c : Cycle) (t : Time), (s.engine g).cycle = some c → c.phase = .claim t →
    (s.timebase - t).toNat ≤ 1 →
    exec (.targetClaim g) s = .next { s with engines := s.engines.set g { s.engine g with
      cycle := some { c with phase := .data s.timebase } } }) ∧
  (∀ (s : State) (g : Segment) (c : Cycle) (t : Time) (w : Word) (q : BitVec 4), (s.engine g).cycle = some c →
    c.phase = .data t → (s.timebase - t).toNat ≤ c.holdLimit →
    (c.passed < c.words → c.kind = .read →
      exec (.wordPass g w q) s = .next { s with engines := s.engines.set g { s.engine g with
        cycle := some { c with
          passed := c.passed + 1
          phase := .data s.timebase
          readData := c.readData ++ [w]
          badWord := c.badWord || parityError w q } } }) ∧
    (c.passed < c.words → c.kind = .write →
      exec (.wordPass g w q) s = .next { s with engines := s.engines.set g { s.engine g with
        cycle := some { c with passed := c.passed + 1, phase := .data s.timebase } } }) ∧
    (c.words ≤ c.passed → exec (.wordPass g w q) s = .next s)) ∧
  (∀ (w : Word) (q : BitVec 4), parityError w q = false ↔ ∀ b < 4,
    (((List.range 8).countP fun i => w.getLsbD (8 * b + i)) + (if q.getLsbD b then 1 else 0)) % 2 = 1)

/-- What a target's signal is taken as at a boundary, and the outcome and the words reported done of every ending. -/
def Obligations.EndingsAndOutcomes : Prop :=
  (∀ k n : Nat, k ≤ n → 1 ≤ n →
    endingAt k n .fault = .fault ∧
    ∀ x : TargetEnding, x ≠ .fault →
      (k = n → endingAt k n x = .done) ∧ (k = 0 → endingAt k n x = .backoff) ∧
      (1 ≤ k → k < n → endingAt k n x = .stop)) ∧
  (∀ c : Cycle,
    let bad := c.kind = .read ∧ c.badWord = true
    c.result .noTarget = { outcome := .noTarget, done := 0, data := c.readData } ∧
    c.result .timeout = { outcome := .timeout, done := c.passed, data := c.readData } ∧
    c.result .fault = { outcome := .fault, done := c.passed, data := c.readData } ∧
    c.result .backoff = { outcome := .backoff, done := 0, data := c.readData } ∧
    (¬bad → c.result .done = { outcome := .done, done := c.passed, data := c.readData } ∧
      c.result .stop = { outcome := .stop, done := c.passed, data := c.readData }) ∧
    (bad → c.result .done = { outcome := .parity, done := c.passed, data := c.readData } ∧
      c.result .stop = { outcome := .parity, done := c.passed, data := c.readData }))

/-- The end of a cycle: the owner's handling, which is that of the queue, of the entry or of the slot by the item, the
consecutive-failure count, the fault test and the removal of the item, in one event, and then the records. A target's
ending ends it at a boundary within the hold limit, the claim
limit ends it NO-TARGET and the hold limit ends it TIMEOUT (row 3). -/
def Obligations.CycleEndsInOneEvent : Prop :=
  (∀ (s : State) (g : Segment) (r : CycleResult),
    (∀ seq : Seq, ownerCycleEnd g (.queueEntry seq) r s = queueCycleEnd g seq r s) ∧
    (∀ i : EntryIndex, ownerCycleEnd g (.dttEntry i) r s = entryCycleEnd i r s) ∧
    (∀ i : SlotIndex, ownerCycleEnd g (.streamSlot i) r s = slotCycleEnd i r s)) ∧
  ∀ (s : State) (g : Segment) (c : Cycle), (s.engine g).cycle = some c →
    (∀ t x, c.phase = .data t → (s.timebase - t).toNat ≤ c.holdLimit →
      exec (.cycleEnd g x) s = .next (endCycle g c (endingAt c.passed c.words x) s)) ∧
    (∀ t, c.phase = .claim t → 1 ≤ (s.timebase - t).toNat →
      exec (.claimLimitExpiry g) s = .next (endCycle g c .noTarget s)) ∧
    (∀ t, c.phase = .data t → c.holdLimit < (s.timebase - t).toNat →
      exec (.holdLimitExpiry g) s = .next (endCycle g c .timeout s)) ∧
    ∀ e : Ending,
      let r := c.result e
      let out := ownerCycleEnd g c.item r s
      let failures := c.nextFailures r.outcome (s.engine g).failures
      (faultCause (s.engine g).state (c.countedFailure r.outcome) failures (s.params.faultThreshold g) = none →
        endCycle g c e s = recordEvent out.2 { out.1 with
          engines := s.engines.set g { s.engine g with failures := failures, cycle := none } }) ∧
      (∀ f, faultCause (s.engine g).state (c.countedFailure r.outcome) failures (s.params.faultThreshold g) = some f →
        let v : State := { out.1 with engines := s.engines.set g { s.engine g with failures := failures } }
        let fault := faultSegment g f v
        endCycle g c e s = recordEvent (out.2 ++ fault.2) { fault.1 with
          engines := s.engines.set g { s.engine g with state := .faulted, failures := failures, cycle := none } })

/-- The end of the cycle of an ISSUED entry by its table, and of an ABANDONED entry, which becomes FREE with
WORK-ABANDONED when it is an ACKED-WRITE with a word done. -/
def Obligations.EntryCycleOutcomes : Prop :=
  ∀ (s : State) (i : EntryIndex) (r : CycleResult),
    let e := s.dtt[i]
    let out := entryCycleEnd i r s
    let f := out.1.dtt[i]
    let ready (o : EntryOutcome) (data : List Word) : Prop :=
      f = { e with state := .ready, outcome := o, readData := data, progress := f.progress, backoff := f.backoff,
                   expiry := s.timebase + BitVec.ofNat 32 s.params.discardTime }
    out.1 = { s with dtt := s.dtt.set i f } ∧
    (e.state = .issued → out.2 = [] ∧
      (r.outcome = .done → ready .success (e.readData ++ r.data)) ∧
      (r.outcome = .stop → f = { e with state := .partly, progress := e.progress + r.done, backoff := 0,
                                        readData := e.readData ++ r.data }) ∧
      (r.outcome = .backoff → e.backoff + 1 < 16 → f = { e with state := .partly, backoff := e.backoff + 1 }) ∧
      (r.outcome = .backoff → 16 ≤ e.backoff + 1 → ready (.failed .targetBusy) []) ∧
      (r.outcome = .noTarget → ready (.failed .noTarget) []) ∧
      (r.outcome = .fault → ready (.failed .targetFault) []) ∧
      (r.outcome = .timeout → ready (.failed .timeout) []) ∧
      (r.outcome = .parity → ready (.failed .parity) [])) ∧
    (e.state = .abandoned → f.state = .free ∧
      (e.kind = .ackedWrite → 1 ≤ e.progress + r.done → out.2 =
        [{ kind := .workAbandoned, lane := some e.owner.lane, segment := some e.segment, segAddr := some e.segAddr,
           words := some (min (e.progress + r.done) e.words) }]) ∧
      (e.kind = .read ∨ e.progress + r.done = 0 → out.2 = []))

/-- The end of a cycle of a queue entry by its table: the head retires with success or failed, or stays head; an entry
that is no longer the head is ignored. -/
def Obligations.QueueHeadOutcomes : Prop :=
  ∀ (s : State) (g : Segment) (seq : Seq) (r : CycleResult),
    let q := s.queues.get g
    (∀ (e : QueueEntry) (rest : List QueueEntry), q.entries = e :: rest → e.seq = seq →
      let gone := meetBarriers g seq (s.setQueue g { entries := rest, counter := q.counter, retired := seq })
      let stays (f : QueueEntry) : State := s.setQueue g { q with entries := f :: rest }
      let fails (f : FailReason) : State × List RecordBody :=
        (countFailedWrite e.owner gone,
          [{ kind := .postedWriteFailed, lane := some e.owner.lane, segment := some g, segAddr := some e.segAddr,
             words := some e.writeWords.length, cause := some (.failed f) }])
      (r.outcome = .done → queueCycleEnd g seq r s = (gone, [])) ∧
      (r.outcome = .stop →
        queueCycleEnd g seq r s = (stays { e with progress := e.progress + r.done, backoff := 0 }, [])) ∧
      (r.outcome = .backoff → e.backoff + 1 < 16 →
        queueCycleEnd g seq r s = (stays { e with backoff := e.backoff + 1 }, [])) ∧
      (r.outcome = .backoff → 16 ≤ e.backoff + 1 → queueCycleEnd g seq r s = fails .targetBusy) ∧
      (r.outcome = .noTarget → queueCycleEnd g seq r s = fails .noTarget) ∧
      (r.outcome = .fault → queueCycleEnd g seq r s = fails .targetFault) ∧
      (r.outcome = .timeout → queueCycleEnd g seq r s = fails .timeout)) ∧
    ((∀ e ∈ q.entries.head?, e.seq ≠ seq) → queueCycleEnd g seq r s = (s, []))

/-- The end of a refill cycle by its table: of a FILLING slot, and of a RETIRING slot, which becomes EMPTY with no
record. -/
def Obligations.RefillOutcomes : Prop :=
  ∀ (s : State) (i : SlotIndex) (p : PendingRefill) (r : CycleResult), s.slots[i].refill = some p →
    let x := s.slots[i]
    let out := slotCycleEnd i r s
    let ended (f : FailReason) : Prop := ∃ z : StreamSlot, z.state = .empty ∧ z.refill = none ∧
      out = (s.setSlot i z,
        [{ kind := .streamRefillFailed, lane := some x.owner.lane, segment := some x.segment,
           segAddr := some p.start, cause := some (.failed f) }])
    (x.state = .filling →
      (r.outcome = .done → out =
        (requestRefill i (s.setSlot i { x with state := .holding, held := x.held ++ r.data, refill := none }), [])) ∧
      (r.outcome = .stop → out = (s.setSlot i { x with
        held := x.held ++ r.data
        refill := some { p with progress := p.progress + r.done, backoff := 0, inCycle := false } }, [])) ∧
      (r.outcome = .backoff → p.backoff + 1 < 16 → out = (s.setSlot i { x with
        refill := some { p with backoff := p.backoff + 1, inCycle := false } }, [])) ∧
      (r.outcome = .backoff → 16 ≤ p.backoff + 1 → ended .targetBusy) ∧
      (r.outcome = .noTarget → ended .noTarget) ∧ (r.outcome = .fault → ended .targetFault) ∧
      (r.outcome = .timeout → ended .timeout) ∧ (r.outcome = .parity → ended .parity)) ∧
    (x.state = .retiring → ∃ z : StreamSlot, z.state = .empty ∧ z.refill = none ∧ out = (s.setSlot i z, []))

/-- The consecutive-failure count by its table, the sixteenth BACKOFF in a row counted as TARGET-BUSY, and the fault
test. -/
def Obligations.FailureCountAndFaultTest : Prop :=
  (∀ (c : Cycle) (o : CycleOutcome) (count : Nat),
    (o = .done ∨ o = .stop → c.countedFailure o = none ∧ c.nextFailures o count = 0) ∧
    (o = .backoff → c.backoffAtGrant ≠ 15 → c.countedFailure o = none ∧ c.nextFailures o count = count) ∧
    (o = .backoff → c.backoffAtGrant = 15 →
      c.countedFailure o = some .targetBusy ∧ c.nextFailures o count = min (count + 1) 255) ∧
    (∀ f, o.failure = some f → c.countedFailure o = some f ∧ c.nextFailures o count = min (count + 1) 255) ∧
    CycleOutcome.noTarget.failure = some .noTarget ∧ CycleOutcome.timeout.failure = some .timeout ∧
    CycleOutcome.fault.failure = some .targetFault ∧ CycleOutcome.parity.failure = some .parity) ∧
  (∀ (x : SegmentState) (failure : Option FailReason) (count threshold : Nat) (f : FailReason),
    faultCause x failure count threshold = some f ↔
      x ≠ .faulted ∧ failure = some f ∧ threshold ≠ 0 ∧ threshold ≤ count)

/-- A segment fault: the queue discards every entry and counts them, each discard meets every barrier on that queue that
names it, of a DTT entry, a pending refill, a fence record or the drain record, and leaves every other barrier and
record as it is; the segment's QUEUED and PARTIAL entries become READY with SEGMENT-DOWN, its slots are dropped, the
segment becomes FAULTED, and WRITES-DROPPED, if an entry was discarded, comes before SEGMENT-FAULTED. -/
def Obligations.SegmentFaultEffects : Prop :=
  ∀ (s : State) (g : Segment) (f : FailReason), CountsOk s →
    let q := s.queues.get g
    let u := (faultSegment g f s).1
    let pairMet (x y : BarrierPair) : Prop :=
      (PerSegment.get x g).AfterDiscard q (PerSegment.get y g) ∧
        ∀ h : Segment, h ≠ g → PerSegment.get y h = PerSegment.get x h
    (faultSegment g f s).2 =
      (if q.entries = [] then []
        else [{ kind := .writesDropped, segment := some g, cause := some .segmentFault,
                count := some q.entries.length }]) ++
      [{ kind := .segmentFaulted, segment := some g, cause := some (.failed f),
         count := some (s.engine g).failures }] ∧
    u = { s with
      dtt := u.dtt
      queues := s.queues.set g { q with entries := [], retired := q.counter }
      fences := u.fences
      drain := u.drain
      failedWrites := u.failedWrites
      slots := u.slots
      refillOrder := keptOrder u.slots s.refillOrder
      engines := s.engines.set g { s.engine g with state := .faulted } } ∧
    (∀ m : LaneId, u.failedWrites[m] = min (s.failedWrites[m] + s.chargedTo m q) 255) ∧
    (∀ n : LaneId, u.fences[n].isSome = s.fences[n].isSome ∧
      ∀ x ∈ s.fences[n], ∀ y ∈ u.fences[n], pairMet x y) ∧
    (u.drain.isSome = s.drain.isSome ∧ ∀ x ∈ s.drain, ∀ y ∈ u.drain, pairMet x y) ∧
    (∀ i : EntryIndex,
      (s.dtt[i].segment = g → s.dtt[i].state = .queued ∨ s.dtt[i].state = .partly →
        u.dtt[i] = { s.dtt[i] with
          state := .ready
          outcome := .failed .segmentDown
          readData := []
          expiry := s.timebase + BitVec.ofNat 32 s.params.discardTime
          barrier := u.dtt[i].barrier }) ∧
      (s.dtt[i].segment = g → s.dtt[i].state ≠ .queued → s.dtt[i].state ≠ .partly →
        u.dtt[i] = { s.dtt[i] with barrier := u.dtt[i].barrier }) ∧
      (s.dtt[i].segment = g → s.dtt[i].barrier.AfterDiscard q u.dtt[i].barrier) ∧
      (s.dtt[i].segment ≠ g → u.dtt[i] = s.dtt[i])) ∧
    ∀ i : SlotIndex, (s.slots[i].segment ≠ g → u.slots[i] = s.slots[i]) ∧
      (s.slots[i].segment = g →
        (s.slots[i].state = .empty → u.slots[i].state = .empty) ∧
        (s.slots[i].state = .holding → u.slots[i].state = .empty ∧ u.slots[i].refill = none) ∧
        (s.slots[i].state = .filling → s.slots[i].inCycle = false →
          u.slots[i].state = .empty ∧ u.slots[i].refill = none) ∧
        (s.slots[i].state = .filling → s.slots[i].inCycle = true → u.slots[i].refill.isSome = true ∧
          u.slots[i] = { s.slots[i] with state := .retiring, held := [], refill := u.slots[i].refill }) ∧
        (s.slots[i].state = .retiring → u.slots[i].refill.isSome = s.slots[i].refill.isSome ∧
          u.slots[i] = { s.slots[i] with refill := u.slots[i].refill }) ∧
        ∀ y ∈ u.slots[i].refill, ∃ x ∈ s.slots[i].refill,
          y = { x with barrier := y.barrier } ∧ x.barrier.AfterDiscard q y.barrier)

/-! ### Timers, log, lanes -/

/-- The expiries that are due: a READY entry becomes FREE with COMPLETION-DISCARDED, an open tail is closed, a HOLDING
or FILLING slot is dropped. TIMEBASE_ADVANCE takes what is still due, by the expiry commands themselves in a fixed order,
the limits of the cycles last (row 2), and then adds one, modulo 2^32; with the parameters in range nothing is due when
it adds. With nothing due it adds one and changes nothing else. -/
def Obligations.ExpiriesAndTimebase : Prop :=
  ∀ s : State,
    (∀ i : EntryIndex, s.dtt[i].state = .ready → s.dtt[i].expiry = s.timebase →
      let e := s.dtt[i]
      ∃ z : DttEntry, z.state = .free ∧ exec (.discardExpiry i) s = .next (recordEvent
        [{ kind := .completionDiscarded, lane := some e.owner.lane, segment := some e.segment,
           segAddr := some e.segAddr, words := some e.words, entryKind := some e.kind,
           cause := some (match e.outcome with
             | .success => .success
             | .failed f => .failed f) }]
        { s with dtt := s.dtt.set i z })) ∧
    (∀ (g : Segment) (e : QueueEntry), (s.queues.get g).tail = some e → e.closeTime = some s.timebase →
      exec (.closeTime g) s = .next { s with queues := s.queues.set g (s.queues.get g).closeTail }) ∧
    (∀ i : SlotIndex, s.slots[i].live = true → s.slots[i].idleExpiry = s.timebase →
      ∃ z : StreamSlot, s.slots[i].DroppedTo z ∧ exec (.idleExpiry i) s = .next { s with
        slots := s.slots.set i z
        refillOrder := keptOrder (s.slots.set i z) s.refillOrder }) ∧
    (∃ t : State, Runs dueCommands s t ∧ t.timebase = s.timebase ∧ (s.params.inRange → NothingDue t) ∧
      exec .timebaseAdvance s = .next { t with timebase := s.timebase + 1 }) ∧
    (NothingDue s → exec .timebaseAdvance s = .next { s with timebase := s.timebase + 1 })

/-- A record handed to a log with room is stored at the back under the counter's number; one handed to a full log is
lost and counted, up to 65535. At a trigger one ALERT with the log's record count and lost count is placed on the
manager lane when ALERTS is on, a lane holds the role and no alert is outstanding; an ALERT not yet sent takes the new
values in its place. -/
def Obligations.RecordsAndAlerts : Prop :=
  (∀ (l : ExceptionLog) (now : Time) (b : RecordBody),
    (l.records.length < 64 → l.hand now b =
      { l with records := l.records ++ [{ seq := l.counter, time := now, body := b }], counter := l.counter + 1 }) ∧
    (64 ≤ l.records.length → l.hand now b = { l with lost := min (l.lost + 1) 65535 })) ∧
  (∀ (bs : List RecordBody) (s : State),
    (bs = [] → recordEvent bs s = s) ∧
    (bs ≠ [] → recordEvent bs s = alertTrigger { s with log := s.logAfter bs })) ∧
  (∀ (s : State) (m : LaneId), s.manager = some m → s.params.alerts = true → s.log.alertOutstanding = false →
    ∃ tx : List TxParcel,
      alertTrigger s = { s with
        lanes := s.lanes.set m { s.lanes[m] with tx := tx }
        log := { s.log with alertOutstanding := true } } ∧
      ((∀ x ∈ s.lanes[m].tx, x.isAlert = false) →
        tx = s.lanes[m].tx ++ [.alert s.log.records.length s.log.lost]) ∧
      (∀ (l r : List TxParcel) (x y : Nat), s.lanes[m].tx = l ++ .alert x y :: r → (∀ z ∈ l, z.isAlert = false) →
        (∀ z ∈ r, z.isAlert = false) → tx = l ++ .alert s.log.records.length s.log.lost :: r)) ∧
  (∀ s : State, s.manager = none ∨ s.params.alerts = false ∨ s.log.alertOutstanding = true → alertTrigger s = s)

/-- The words of the parcels that a lane sends, and of a log record; an absent field reads as 0. -/
def Obligations.OutgoingWordFormats : Prop :=
  (∀ r : Response, r.data.length ≤ 16 → ∃ w0 w1 : Word, (TxParcel.response r).toWords = w0 :: w1 :: r.data ∧
    w0.extractLsb' 28 4 = 8 ∧ w0.extractLsb' 24 4 = r.tag ∧ (w0.extractLsb' 20 4).toNat = r.status.code ∧
    (w0.extractLsb' 16 4).toNat = r.status.reasonCode ∧ w0.extractLsb' 0 16 = r.info ∧ w1.toNat = r.data.length) ∧
  (∀ records lost : Nat, records ≤ 64 → lost ≤ 65535 → ∃ w0 : Word,
    (TxParcel.alert records lost).toWords = [w0, 1, BitVec.ofNat 32 lost] ∧ w0.extractLsb' 28 4 = 9 ∧
    w0.extractLsb' 16 12 = 0 ∧ (w0.extractLsb' 0 16).toNat = records) ∧
  (∀ r : LogRecord, (∀ k ∈ r.body.words, k ≤ 16) → (∀ k ∈ r.body.count, k ≤ 255) → ∃ w0 w2 w3 : Word,
    r.toWords = [w0, r.time, w2, w3] ∧ w0.extractLsb' 16 16 = r.seq ∧
    (w0.extractLsb' 12 4).toNat = r.body.kind.code ∧ (w0.extractLsb' 8 4).toNat = (r.body.lane.map Fin.val).getD 0 ∧
    (w0.extractLsb' 7 1).toNat = (r.body.segment.map segmentCode).getD 0 ∧
    (w0.extractLsb' 6 1).toNat = (r.body.entryKind.map EntryKind.code).getD 0 ∧
    (w0.extractLsb' 0 4).toNat = (r.body.cause.map Cause.code).getD 0 ∧
    w2.toNat = (r.body.segAddr.map BitVec.toNat).getD 0 ∧ (w3.extractLsb' 16 5).toNat = r.body.words.getD 0 ∧
    (w3.extractLsb' 0 8).toNat = r.body.count.getD 0)

/-- An arrival of a DOWN lane, a delivery with room and a sending change their lane alone. -/
def Obligations.ArrivalDeliverySend : Prop :=
  ∀ (s : State) (n : LaneId),
    (s.lanes[n].state = .down →
      exec (.arrival n) s = .next { s with
        lanes := s.lanes.set n { s.lanes[n] with state := .up, epoch := s.lanes[n].epoch + 1, rx := [], tx := [] }
        failedWrites := s.failedWrites.set n 0 }) ∧
    (∀ p : Parcel, s.lanes[n].state = .up → s.lanes[n].rx.length < 2 →
      exec (.parcelDelivery n p) s = .next { s with
        lanes := s.lanes.set n { s.lanes[n] with rx := s.lanes[n].rx ++ [p] } }) ∧
    (∀ (x : TxParcel) (rest : List TxParcel), s.lanes[n].tx = x :: rest →
      exec (.parcelSend n) s = .next { s with
        lanes := s.lanes.set n { s.lanes[n] with tx := rest, txLine := x.toWords } })

/-- A departure of an UP lane, and a delivery to a receive buffer that holds 2 parcels: the lane is DOWN with its epoch
kept and both buffers empty, the role ends when the lane holds it, its entries are released, its slots dropped, its
fence record freed and its count cleared; the records follow, and then the trigger. -/
def Obligations.DepartureAndCreditBreach : Prop :=
  ∀ (s : State) (n : LaneId), s.lanes[n].state = .up →
    let recs := workAbandonedOf (fun e => e.owner.lane = n) s
    ∃ u : State,
      exec (.departure n) s = .next (recordEvent recs u) ∧
      (∀ p : Parcel, 2 ≤ s.lanes[n].rx.length → exec (.parcelDelivery n p) s = exec (.departure n) s) ∧
      u = { s with
        lanes := s.lanes.set n { s.lanes[n] with state := .down, rx := [], tx := [] }
        dtt := u.dtt
        slots := u.slots
        refillOrder := keptOrder u.slots s.refillOrder
        fences := s.fences.set n none
        failedWrites := s.failedWrites.set n 0
        manager := if s.manager = some n then none else s.manager
        drain := if s.manager = some n then none else s.drain
        log := if s.manager = some n then { s.log with alertOutstanding := false } else s.log } ∧
      (∀ i : EntryIndex, (s.dtt[i].owner.lane = n → s.dtt[i].ReleasedTo u.dtt[i]) ∧
        (s.dtt[i].owner.lane ≠ n → u.dtt[i] = s.dtt[i])) ∧
      ∀ i : SlotIndex, (s.slots[i].owner.lane = n → s.slots[i].DroppedTo u.slots[i]) ∧
        (s.slots[i].owner.lane ≠ n → u.slots[i] = s.slots[i])
end

