-- ==== Sys2Proof/Laws/State.lean ====
section
/-! SUPPORT. Reading after writing: one lemma for each field of State and each way of writing State, true by
unfolding. -/

namespace Sys2Proof.Machine

/-! ### One of a thing for each segment -/

@[simp] theorem PerSegment.get_a {α : Type} (p : PerSegment α) : p.get .a = p.a := rfl
@[simp] theorem PerSegment.get_b {α : Type} (p : PerSegment α) : p.get .b = p.b := rfl
@[simp] theorem PerSegment.set_a {α : Type} (p : PerSegment α) (x : α) : p.set .a x = { p with a := x } := rfl
@[simp] theorem PerSegment.set_b {α : Type} (p : PerSegment α) (x : α) : p.set .b x = { p with b := x } := rfl
@[simp] theorem PerSegment.map_a {α β : Type} (f : α → β) (p : PerSegment α) : (p.map f).a = f p.a := rfl
@[simp] theorem PerSegment.map_b {α β : Type} (f : α → β) (p : PerSegment α) : (p.map f).b = f p.b := rfl

/-- The item written is the item read. -/
@[simp] theorem PerSegment.get_set_self {α : Type} (p : PerSegment α) (g : Segment) (x : α) : (p.set g x).get g = x := by
  cases g <;> rfl

/-- The item of the other segment is not written. -/
theorem PerSegment.get_set_ne {α : Type} (p : PerSegment α) {g h : Segment} (x : α) (d : h ≠ g) :
    (p.set g x).get h = p.get h := by
  cases g <;> cases h <;> first | rfl | exact absurd rfl d

/-- Two writes of one item leave the second. -/
@[simp] theorem PerSegment.set_set {α : Type} (p : PerSegment α) (g : Segment) (x y : α) :
    (p.set g x).set g y = p.set g y := by
  cases g <;> rfl

/-- Writing the item read changes nothing. -/
@[simp] theorem PerSegment.set_get_self {α : Type} (p : PerSegment α) (g : Segment) : p.set g (p.get g) = p := by
  cases g <;> rfl

@[simp] theorem PerSegment.get_map {α β : Type} (f : α → β) (p : PerSegment α) (g : Segment) :
    (p.map f).get g = f (p.get g) := by
  cases g <;> rfl

theorem State.engine_eq (s : State) (g : Segment) : s.engine g = s.engines.get g := rfl

/-! ### The fields that a write of one block leaves -/

namespace State

@[simp] theorem modifyLane_lastGranted (s : State) (n : LaneId) (f : Lane → Lane) : (s.modifyLane n f).lastGranted = s.lastGranted := rfl
@[simp] theorem modifyLane_staged (s : State) (n : LaneId) (f : Lane → Lane) : (s.modifyLane n f).staged = s.staged := rfl
@[simp] theorem modifyLane_live (s : State) (n : LaneId) (f : Lane → Lane) : (s.modifyLane n f).live = s.live := rfl
@[simp] theorem modifyLane_generation (s : State) (n : LaneId) (f : Lane → Lane) : (s.modifyLane n f).generation = s.generation := rfl
@[simp] theorem modifyLane_dtt (s : State) (n : LaneId) (f : Lane → Lane) : (s.modifyLane n f).dtt = s.dtt := rfl
@[simp] theorem modifyLane_creationCounter (s : State) (n : LaneId) (f : Lane → Lane) : (s.modifyLane n f).creationCounter = s.creationCounter := rfl
@[simp] theorem modifyLane_queues (s : State) (n : LaneId) (f : Lane → Lane) : (s.modifyLane n f).queues = s.queues := rfl
@[simp] theorem modifyLane_fences (s : State) (n : LaneId) (f : Lane → Lane) : (s.modifyLane n f).fences = s.fences := rfl
@[simp] theorem modifyLane_drain (s : State) (n : LaneId) (f : Lane → Lane) : (s.modifyLane n f).drain = s.drain := rfl
@[simp] theorem modifyLane_failedWrites (s : State) (n : LaneId) (f : Lane → Lane) : (s.modifyLane n f).failedWrites = s.failedWrites := rfl
@[simp] theorem modifyLane_slots (s : State) (n : LaneId) (f : Lane → Lane) : (s.modifyLane n f).slots = s.slots := rfl
@[simp] theorem modifyLane_refillOrder (s : State) (n : LaneId) (f : Lane → Lane) : (s.modifyLane n f).refillOrder = s.refillOrder := rfl
@[simp] theorem modifyLane_engines (s : State) (n : LaneId) (f : Lane → Lane) : (s.modifyLane n f).engines = s.engines := rfl
@[simp] theorem modifyLane_log (s : State) (n : LaneId) (f : Lane → Lane) : (s.modifyLane n f).log = s.log := rfl
@[simp] theorem modifyLane_manager (s : State) (n : LaneId) (f : Lane → Lane) : (s.modifyLane n f).manager = s.manager := rfl
@[simp] theorem modifyLane_gate (s : State) (n : LaneId) (f : Lane → Lane) : (s.modifyLane n f).gate = s.gate := rfl
@[simp] theorem modifyLane_params (s : State) (n : LaneId) (f : Lane → Lane) : (s.modifyLane n f).params = s.params := rfl
@[simp] theorem modifyLane_timebase (s : State) (n : LaneId) (f : Lane → Lane) : (s.modifyLane n f).timebase = s.timebase := rfl
@[simp] theorem modifyLane_pending (s : State) (n : LaneId) (f : Lane → Lane) : (s.modifyLane n f).pending = s.pending := rfl

@[simp] theorem setEntry_lanes (s : State) (i : EntryIndex) (e : DttEntry) : (s.setEntry i e).lanes = s.lanes := rfl
@[simp] theorem setEntry_lastGranted (s : State) (i : EntryIndex) (e : DttEntry) : (s.setEntry i e).lastGranted = s.lastGranted := rfl
@[simp] theorem setEntry_staged (s : State) (i : EntryIndex) (e : DttEntry) : (s.setEntry i e).staged = s.staged := rfl
@[simp] theorem setEntry_live (s : State) (i : EntryIndex) (e : DttEntry) : (s.setEntry i e).live = s.live := rfl
@[simp] theorem setEntry_generation (s : State) (i : EntryIndex) (e : DttEntry) : (s.setEntry i e).generation = s.generation := rfl
@[simp] theorem setEntry_creationCounter (s : State) (i : EntryIndex) (e : DttEntry) : (s.setEntry i e).creationCounter = s.creationCounter := rfl
@[simp] theorem setEntry_queues (s : State) (i : EntryIndex) (e : DttEntry) : (s.setEntry i e).queues = s.queues := rfl
@[simp] theorem setEntry_fences (s : State) (i : EntryIndex) (e : DttEntry) : (s.setEntry i e).fences = s.fences := rfl
@[simp] theorem setEntry_drain (s : State) (i : EntryIndex) (e : DttEntry) : (s.setEntry i e).drain = s.drain := rfl
@[simp] theorem setEntry_failedWrites (s : State) (i : EntryIndex) (e : DttEntry) : (s.setEntry i e).failedWrites = s.failedWrites := rfl
@[simp] theorem setEntry_slots (s : State) (i : EntryIndex) (e : DttEntry) : (s.setEntry i e).slots = s.slots := rfl
@[simp] theorem setEntry_refillOrder (s : State) (i : EntryIndex) (e : DttEntry) : (s.setEntry i e).refillOrder = s.refillOrder := rfl
@[simp] theorem setEntry_engines (s : State) (i : EntryIndex) (e : DttEntry) : (s.setEntry i e).engines = s.engines := rfl
@[simp] theorem setEntry_log (s : State) (i : EntryIndex) (e : DttEntry) : (s.setEntry i e).log = s.log := rfl
@[simp] theorem setEntry_manager (s : State) (i : EntryIndex) (e : DttEntry) : (s.setEntry i e).manager = s.manager := rfl
@[simp] theorem setEntry_gate (s : State) (i : EntryIndex) (e : DttEntry) : (s.setEntry i e).gate = s.gate := rfl
@[simp] theorem setEntry_params (s : State) (i : EntryIndex) (e : DttEntry) : (s.setEntry i e).params = s.params := rfl
@[simp] theorem setEntry_timebase (s : State) (i : EntryIndex) (e : DttEntry) : (s.setEntry i e).timebase = s.timebase := rfl
@[simp] theorem setEntry_pending (s : State) (i : EntryIndex) (e : DttEntry) : (s.setEntry i e).pending = s.pending := rfl

@[simp] theorem setQueue_lanes (s : State) (g : Segment) (q : PostedQueue) : (s.setQueue g q).lanes = s.lanes := rfl
@[simp] theorem setQueue_lastGranted (s : State) (g : Segment) (q : PostedQueue) : (s.setQueue g q).lastGranted = s.lastGranted := rfl
@[simp] theorem setQueue_staged (s : State) (g : Segment) (q : PostedQueue) : (s.setQueue g q).staged = s.staged := rfl
@[simp] theorem setQueue_live (s : State) (g : Segment) (q : PostedQueue) : (s.setQueue g q).live = s.live := rfl
@[simp] theorem setQueue_generation (s : State) (g : Segment) (q : PostedQueue) : (s.setQueue g q).generation = s.generation := rfl
@[simp] theorem setQueue_dtt (s : State) (g : Segment) (q : PostedQueue) : (s.setQueue g q).dtt = s.dtt := rfl
@[simp] theorem setQueue_creationCounter (s : State) (g : Segment) (q : PostedQueue) : (s.setQueue g q).creationCounter = s.creationCounter := rfl
@[simp] theorem setQueue_fences (s : State) (g : Segment) (q : PostedQueue) : (s.setQueue g q).fences = s.fences := rfl
@[simp] theorem setQueue_drain (s : State) (g : Segment) (q : PostedQueue) : (s.setQueue g q).drain = s.drain := rfl
@[simp] theorem setQueue_failedWrites (s : State) (g : Segment) (q : PostedQueue) : (s.setQueue g q).failedWrites = s.failedWrites := rfl
@[simp] theorem setQueue_slots (s : State) (g : Segment) (q : PostedQueue) : (s.setQueue g q).slots = s.slots := rfl
@[simp] theorem setQueue_refillOrder (s : State) (g : Segment) (q : PostedQueue) : (s.setQueue g q).refillOrder = s.refillOrder := rfl
@[simp] theorem setQueue_engines (s : State) (g : Segment) (q : PostedQueue) : (s.setQueue g q).engines = s.engines := rfl
@[simp] theorem setQueue_log (s : State) (g : Segment) (q : PostedQueue) : (s.setQueue g q).log = s.log := rfl
@[simp] theorem setQueue_manager (s : State) (g : Segment) (q : PostedQueue) : (s.setQueue g q).manager = s.manager := rfl
@[simp] theorem setQueue_gate (s : State) (g : Segment) (q : PostedQueue) : (s.setQueue g q).gate = s.gate := rfl
@[simp] theorem setQueue_params (s : State) (g : Segment) (q : PostedQueue) : (s.setQueue g q).params = s.params := rfl
@[simp] theorem setQueue_timebase (s : State) (g : Segment) (q : PostedQueue) : (s.setQueue g q).timebase = s.timebase := rfl
@[simp] theorem setQueue_pending (s : State) (g : Segment) (q : PostedQueue) : (s.setQueue g q).pending = s.pending := rfl

@[simp] theorem setEngine_lanes (s : State) (g : Segment) (e : Engine) : (s.setEngine g e).lanes = s.lanes := rfl
@[simp] theorem setEngine_lastGranted (s : State) (g : Segment) (e : Engine) : (s.setEngine g e).lastGranted = s.lastGranted := rfl
@[simp] theorem setEngine_staged (s : State) (g : Segment) (e : Engine) : (s.setEngine g e).staged = s.staged := rfl
@[simp] theorem setEngine_live (s : State) (g : Segment) (e : Engine) : (s.setEngine g e).live = s.live := rfl
@[simp] theorem setEngine_generation (s : State) (g : Segment) (e : Engine) : (s.setEngine g e).generation = s.generation := rfl
@[simp] theorem setEngine_dtt (s : State) (g : Segment) (e : Engine) : (s.setEngine g e).dtt = s.dtt := rfl
@[simp] theorem setEngine_creationCounter (s : State) (g : Segment) (e : Engine) : (s.setEngine g e).creationCounter = s.creationCounter := rfl
@[simp] theorem setEngine_queues (s : State) (g : Segment) (e : Engine) : (s.setEngine g e).queues = s.queues := rfl
@[simp] theorem setEngine_fences (s : State) (g : Segment) (e : Engine) : (s.setEngine g e).fences = s.fences := rfl
@[simp] theorem setEngine_drain (s : State) (g : Segment) (e : Engine) : (s.setEngine g e).drain = s.drain := rfl
@[simp] theorem setEngine_failedWrites (s : State) (g : Segment) (e : Engine) : (s.setEngine g e).failedWrites = s.failedWrites := rfl
@[simp] theorem setEngine_slots (s : State) (g : Segment) (e : Engine) : (s.setEngine g e).slots = s.slots := rfl
@[simp] theorem setEngine_refillOrder (s : State) (g : Segment) (e : Engine) : (s.setEngine g e).refillOrder = s.refillOrder := rfl
@[simp] theorem setEngine_log (s : State) (g : Segment) (e : Engine) : (s.setEngine g e).log = s.log := rfl
@[simp] theorem setEngine_manager (s : State) (g : Segment) (e : Engine) : (s.setEngine g e).manager = s.manager := rfl
@[simp] theorem setEngine_gate (s : State) (g : Segment) (e : Engine) : (s.setEngine g e).gate = s.gate := rfl
@[simp] theorem setEngine_params (s : State) (g : Segment) (e : Engine) : (s.setEngine g e).params = s.params := rfl
@[simp] theorem setEngine_timebase (s : State) (g : Segment) (e : Engine) : (s.setEngine g e).timebase = s.timebase := rfl
@[simp] theorem setEngine_pending (s : State) (g : Segment) (e : Engine) : (s.setEngine g e).pending = s.pending := rfl

@[simp] theorem setFence_lanes (s : State) (n : LaneId) (r : Option BarrierPair) : (s.setFence n r).lanes = s.lanes := rfl
@[simp] theorem setFence_lastGranted (s : State) (n : LaneId) (r : Option BarrierPair) : (s.setFence n r).lastGranted = s.lastGranted := rfl
@[simp] theorem setFence_staged (s : State) (n : LaneId) (r : Option BarrierPair) : (s.setFence n r).staged = s.staged := rfl
@[simp] theorem setFence_live (s : State) (n : LaneId) (r : Option BarrierPair) : (s.setFence n r).live = s.live := rfl
@[simp] theorem setFence_generation (s : State) (n : LaneId) (r : Option BarrierPair) : (s.setFence n r).generation = s.generation := rfl
@[simp] theorem setFence_dtt (s : State) (n : LaneId) (r : Option BarrierPair) : (s.setFence n r).dtt = s.dtt := rfl
@[simp] theorem setFence_creationCounter (s : State) (n : LaneId) (r : Option BarrierPair) : (s.setFence n r).creationCounter = s.creationCounter := rfl
@[simp] theorem setFence_queues (s : State) (n : LaneId) (r : Option BarrierPair) : (s.setFence n r).queues = s.queues := rfl
@[simp] theorem setFence_drain (s : State) (n : LaneId) (r : Option BarrierPair) : (s.setFence n r).drain = s.drain := rfl
@[simp] theorem setFence_failedWrites (s : State) (n : LaneId) (r : Option BarrierPair) : (s.setFence n r).failedWrites = s.failedWrites := rfl
@[simp] theorem setFence_slots (s : State) (n : LaneId) (r : Option BarrierPair) : (s.setFence n r).slots = s.slots := rfl
@[simp] theorem setFence_refillOrder (s : State) (n : LaneId) (r : Option BarrierPair) : (s.setFence n r).refillOrder = s.refillOrder := rfl
@[simp] theorem setFence_engines (s : State) (n : LaneId) (r : Option BarrierPair) : (s.setFence n r).engines = s.engines := rfl
@[simp] theorem setFence_log (s : State) (n : LaneId) (r : Option BarrierPair) : (s.setFence n r).log = s.log := rfl
@[simp] theorem setFence_manager (s : State) (n : LaneId) (r : Option BarrierPair) : (s.setFence n r).manager = s.manager := rfl
@[simp] theorem setFence_gate (s : State) (n : LaneId) (r : Option BarrierPair) : (s.setFence n r).gate = s.gate := rfl
@[simp] theorem setFence_params (s : State) (n : LaneId) (r : Option BarrierPair) : (s.setFence n r).params = s.params := rfl
@[simp] theorem setFence_timebase (s : State) (n : LaneId) (r : Option BarrierPair) : (s.setFence n r).timebase = s.timebase := rfl
@[simp] theorem setFence_pending (s : State) (n : LaneId) (r : Option BarrierPair) : (s.setFence n r).pending = s.pending := rfl

@[simp] theorem setFailedWrites_lanes (s : State) (n : LaneId) (k : Nat) : (s.setFailedWrites n k).lanes = s.lanes := rfl
@[simp] theorem setFailedWrites_lastGranted (s : State) (n : LaneId) (k : Nat) : (s.setFailedWrites n k).lastGranted = s.lastGranted := rfl
@[simp] theorem setFailedWrites_staged (s : State) (n : LaneId) (k : Nat) : (s.setFailedWrites n k).staged = s.staged := rfl
@[simp] theorem setFailedWrites_live (s : State) (n : LaneId) (k : Nat) : (s.setFailedWrites n k).live = s.live := rfl
@[simp] theorem setFailedWrites_generation (s : State) (n : LaneId) (k : Nat) : (s.setFailedWrites n k).generation = s.generation := rfl
@[simp] theorem setFailedWrites_dtt (s : State) (n : LaneId) (k : Nat) : (s.setFailedWrites n k).dtt = s.dtt := rfl
@[simp] theorem setFailedWrites_creationCounter (s : State) (n : LaneId) (k : Nat) : (s.setFailedWrites n k).creationCounter = s.creationCounter := rfl
@[simp] theorem setFailedWrites_queues (s : State) (n : LaneId) (k : Nat) : (s.setFailedWrites n k).queues = s.queues := rfl
@[simp] theorem setFailedWrites_fences (s : State) (n : LaneId) (k : Nat) : (s.setFailedWrites n k).fences = s.fences := rfl
@[simp] theorem setFailedWrites_drain (s : State) (n : LaneId) (k : Nat) : (s.setFailedWrites n k).drain = s.drain := rfl
@[simp] theorem setFailedWrites_slots (s : State) (n : LaneId) (k : Nat) : (s.setFailedWrites n k).slots = s.slots := rfl
@[simp] theorem setFailedWrites_refillOrder (s : State) (n : LaneId) (k : Nat) : (s.setFailedWrites n k).refillOrder = s.refillOrder := rfl
@[simp] theorem setFailedWrites_engines (s : State) (n : LaneId) (k : Nat) : (s.setFailedWrites n k).engines = s.engines := rfl
@[simp] theorem setFailedWrites_log (s : State) (n : LaneId) (k : Nat) : (s.setFailedWrites n k).log = s.log := rfl
@[simp] theorem setFailedWrites_manager (s : State) (n : LaneId) (k : Nat) : (s.setFailedWrites n k).manager = s.manager := rfl
@[simp] theorem setFailedWrites_gate (s : State) (n : LaneId) (k : Nat) : (s.setFailedWrites n k).gate = s.gate := rfl
@[simp] theorem setFailedWrites_params (s : State) (n : LaneId) (k : Nat) : (s.setFailedWrites n k).params = s.params := rfl
@[simp] theorem setFailedWrites_timebase (s : State) (n : LaneId) (k : Nat) : (s.setFailedWrites n k).timebase = s.timebase := rfl
@[simp] theorem setFailedWrites_pending (s : State) (n : LaneId) (k : Nat) : (s.setFailedWrites n k).pending = s.pending := rfl

@[simp] theorem setSlots_lanes (s : State) (v : Vector StreamSlot 4) : (s.setSlots v).lanes = s.lanes := rfl
@[simp] theorem setSlots_lastGranted (s : State) (v : Vector StreamSlot 4) : (s.setSlots v).lastGranted = s.lastGranted := rfl
@[simp] theorem setSlots_staged (s : State) (v : Vector StreamSlot 4) : (s.setSlots v).staged = s.staged := rfl
@[simp] theorem setSlots_live (s : State) (v : Vector StreamSlot 4) : (s.setSlots v).live = s.live := rfl
@[simp] theorem setSlots_generation (s : State) (v : Vector StreamSlot 4) : (s.setSlots v).generation = s.generation := rfl
@[simp] theorem setSlots_dtt (s : State) (v : Vector StreamSlot 4) : (s.setSlots v).dtt = s.dtt := rfl
@[simp] theorem setSlots_creationCounter (s : State) (v : Vector StreamSlot 4) : (s.setSlots v).creationCounter = s.creationCounter := rfl
@[simp] theorem setSlots_queues (s : State) (v : Vector StreamSlot 4) : (s.setSlots v).queues = s.queues := rfl
@[simp] theorem setSlots_fences (s : State) (v : Vector StreamSlot 4) : (s.setSlots v).fences = s.fences := rfl
@[simp] theorem setSlots_drain (s : State) (v : Vector StreamSlot 4) : (s.setSlots v).drain = s.drain := rfl
@[simp] theorem setSlots_failedWrites (s : State) (v : Vector StreamSlot 4) : (s.setSlots v).failedWrites = s.failedWrites := rfl
@[simp] theorem setSlots_engines (s : State) (v : Vector StreamSlot 4) : (s.setSlots v).engines = s.engines := rfl
@[simp] theorem setSlots_log (s : State) (v : Vector StreamSlot 4) : (s.setSlots v).log = s.log := rfl
@[simp] theorem setSlots_manager (s : State) (v : Vector StreamSlot 4) : (s.setSlots v).manager = s.manager := rfl
@[simp] theorem setSlots_gate (s : State) (v : Vector StreamSlot 4) : (s.setSlots v).gate = s.gate := rfl
@[simp] theorem setSlots_params (s : State) (v : Vector StreamSlot 4) : (s.setSlots v).params = s.params := rfl
@[simp] theorem setSlots_timebase (s : State) (v : Vector StreamSlot 4) : (s.setSlots v).timebase = s.timebase := rfl
@[simp] theorem setSlots_pending (s : State) (v : Vector StreamSlot 4) : (s.setSlots v).pending = s.pending := rfl

@[simp] theorem setSlot_lanes (s : State) (i : SlotIndex) (x : StreamSlot) : (s.setSlot i x).lanes = s.lanes := rfl
@[simp] theorem setSlot_lastGranted (s : State) (i : SlotIndex) (x : StreamSlot) : (s.setSlot i x).lastGranted = s.lastGranted := rfl
@[simp] theorem setSlot_staged (s : State) (i : SlotIndex) (x : StreamSlot) : (s.setSlot i x).staged = s.staged := rfl
@[simp] theorem setSlot_live (s : State) (i : SlotIndex) (x : StreamSlot) : (s.setSlot i x).live = s.live := rfl
@[simp] theorem setSlot_generation (s : State) (i : SlotIndex) (x : StreamSlot) : (s.setSlot i x).generation = s.generation := rfl
@[simp] theorem setSlot_dtt (s : State) (i : SlotIndex) (x : StreamSlot) : (s.setSlot i x).dtt = s.dtt := rfl
@[simp] theorem setSlot_creationCounter (s : State) (i : SlotIndex) (x : StreamSlot) : (s.setSlot i x).creationCounter = s.creationCounter := rfl
@[simp] theorem setSlot_queues (s : State) (i : SlotIndex) (x : StreamSlot) : (s.setSlot i x).queues = s.queues := rfl
@[simp] theorem setSlot_fences (s : State) (i : SlotIndex) (x : StreamSlot) : (s.setSlot i x).fences = s.fences := rfl
@[simp] theorem setSlot_drain (s : State) (i : SlotIndex) (x : StreamSlot) : (s.setSlot i x).drain = s.drain := rfl
@[simp] theorem setSlot_failedWrites (s : State) (i : SlotIndex) (x : StreamSlot) : (s.setSlot i x).failedWrites = s.failedWrites := rfl
@[simp] theorem setSlot_engines (s : State) (i : SlotIndex) (x : StreamSlot) : (s.setSlot i x).engines = s.engines := rfl
@[simp] theorem setSlot_log (s : State) (i : SlotIndex) (x : StreamSlot) : (s.setSlot i x).log = s.log := rfl
@[simp] theorem setSlot_manager (s : State) (i : SlotIndex) (x : StreamSlot) : (s.setSlot i x).manager = s.manager := rfl
@[simp] theorem setSlot_gate (s : State) (i : SlotIndex) (x : StreamSlot) : (s.setSlot i x).gate = s.gate := rfl
@[simp] theorem setSlot_params (s : State) (i : SlotIndex) (x : StreamSlot) : (s.setSlot i x).params = s.params := rfl
@[simp] theorem setSlot_timebase (s : State) (i : SlotIndex) (x : StreamSlot) : (s.setSlot i x).timebase = s.timebase := rfl
@[simp] theorem setSlot_pending (s : State) (i : SlotIndex) (x : StreamSlot) : (s.setSlot i x).pending = s.pending := rfl

end State

/-! ### The field that a write of one block writes -/

@[simp] theorem State.modifyLane_lanes (s : State) (n : LaneId) (f : Lane → Lane) :
    (s.modifyLane n f).lanes = s.lanes.set n (f s.lanes[n]) := rfl
@[simp] theorem State.setEntry_dtt (s : State) (i : EntryIndex) (e : DttEntry) : (s.setEntry i e).dtt = s.dtt.set i e := rfl
@[simp] theorem State.setQueue_queues (s : State) (g : Segment) (q : PostedQueue) :
    (s.setQueue g q).queues = s.queues.set g q := rfl
@[simp] theorem State.setEngine_engines (s : State) (g : Segment) (e : Engine) :
    (s.setEngine g e).engines = s.engines.set g e := rfl
@[simp] theorem State.setFence_fences (s : State) (n : LaneId) (r : Option BarrierPair) :
    (s.setFence n r).fences = s.fences.set n r := rfl
@[simp] theorem State.setFailedWrites_failedWrites (s : State) (n : LaneId) (k : Nat) :
    (s.setFailedWrites n k).failedWrites = s.failedWrites.set n k := rfl
@[simp] theorem State.setSlots_slots (s : State) (v : Vector StreamSlot 4) : (s.setSlots v).slots = v := rfl
@[simp] theorem State.setSlots_refillOrder (s : State) (v : Vector StreamSlot 4) :
    (s.setSlots v).refillOrder = keptOrder v s.refillOrder := rfl
@[simp] theorem State.setSlot_slots (s : State) (i : SlotIndex) (x : StreamSlot) :
    (s.setSlot i x).slots = s.slots.set i x := rfl
@[simp] theorem State.setSlot_refillOrder (s : State) (i : SlotIndex) (x : StreamSlot) :
    (s.setSlot i x).refillOrder = keptOrder (s.slots.set i x) s.refillOrder := rfl

/-! ### One item of a table after a write -/

/-- The item written is the item read, and no other item is written. -/
theorem table_set {α : Type} {n : Nat} (v : Vector α n) (i j : Fin n) (x : α) :
    (v.set i x)[j] = if i = j then x else v[j] := by
  simp only [Fin.getElem_fin, Vector.getElem_set, Fin.ext_iff]

@[simp] theorem table_set_self {α : Type} {n : Nat} (v : Vector α n) (i : Fin n) (x : α) :
    (v.set i x)[i] = x := by
  rw [table_set, if_pos rfl]

theorem table_set_ne {α : Type} {n : Nat} (v : Vector α n) {i j : Fin n} (x : α) (d : i ≠ j) :
    (v.set i x)[j] = v[j] := by
  rw [table_set, if_neg d]

end Sys2Proof.Machine
end

