-- ==== Sys2Proof/Laws/Tables.lean ====
section
/-! SUPPORT. What the operations on tables and lists of Machine/Ops.lean do. -/

namespace Sys2Proof.Machine

/-! ### mapAll -/

@[simp] theorem mapAll_getElem {α β : Type} {n : Nat} (f : α → β) (v : Vector α n) (i : Nat) (h : i < n) :
    (mapAll f v)[i] = f v[i] := by
  simp [mapAll]

theorem mapAll_table {α β : Type} {n : Nat} (f : α → β) (v : Vector α n) (i : Fin n) : (mapAll f v)[i] = f v[i] := by
  simp [mapAll]

/-- A function that changes nothing changes no table. -/
theorem mapAll_of_id {α : Type} {n : Nat} (f : α → α) (v : Vector α n) (h : ∀ i : Fin n, f v[i] = v[i]) :
    mapAll f v = v := by
  apply Vector.ext
  intro i hi
  simpa using h ⟨i, hi⟩

/-- Two functions applied one after the other. -/
theorem mapAll_mapAll {α β γ : Type} {n : Nat} (f : α → β) (k : β → γ) (v : Vector α n) :
    mapAll k (mapAll f v) = mapAll (fun x => k (f x)) v := by
  apply Vector.ext
  intro i hi
  simp

/-- Tables that agree at every index are equal. -/
theorem table_ext {α : Type} {n : Nat} {v w : Vector α n} (h : ∀ i : Fin n, v[i] = w[i]) : v = w := by
  apply Vector.ext
  intro i hi
  exact h ⟨i, hi⟩

/-! ### findFirst -/

/-- The index found passes the test, and none before it does. -/
theorem findFirst_eq_some {α : Type} {n : Nat} {p : α → Bool} {v : Vector α n} {i : Fin n} :
    findFirst p v = some i ↔ p v[i] = true ∧ ∀ j : Fin n, j < i → p v[j] = false := by
  unfold findFirst
  rw [List.find?_eq_some_iff_getElem]
  constructor
  · rintro ⟨hp, k, hk, he, hb⟩
    have hk' : k = i.val := by simpa [Fin.ext_iff] using he
    refine ⟨hp, fun j hj => ?_⟩
    have := hb j.val (by omega)
    simpa using this
  · rintro ⟨hp, hb⟩
    refine ⟨hp, i.val, by simp, by simp, fun j hj => ?_⟩
    have := hb ⟨j, by omega⟩ (by simpa [Fin.lt_def] using hj)
    simpa using this

/-- Nothing is found when no item passes. -/
theorem findFirst_eq_none {α : Type} {n : Nat} {p : α → Bool} {v : Vector α n} :
    findFirst p v = none ↔ ∀ i : Fin n, p v[i] = false := by
  unfold findFirst
  rw [List.find?_eq_none]
  simp

/-! ### pickMax -/

/-- Nothing is picked from the empty list alone. -/
@[simp] theorem pickMax_eq_none {α : Type} (key : α → Nat) (l : List α) : pickMax key l = none ↔ l = [] := by
  cases l with
  | nil => simp [pickMax]
  | cons x xs =>
    simp only [pickMax]
    cases pickMax key xs with
    | none => simp
    | some y => by_cases h : key y ≤ key x <;> simp [h]

/-- The item picked splits the list: those before it have smaller keys, those behind it no greater ones. -/
theorem pickMax_eq_some {α : Type} {key : α → Nat} {l : List α} {x : α} :
    pickMax key l = some x →
      ∃ a b : List α, l = a ++ x :: b ∧ (∀ y ∈ a, key y < key x) ∧ ∀ y ∈ b, key y ≤ key x := by
  induction l generalizing x with
  | nil => simp [pickMax]
  | cons z zs ih =>
    simp only [pickMax]
    cases hz : pickMax key zs with
    | none =>
      have hn : zs = [] := (pickMax_eq_none key zs).1 hz
      intro h
      obtain rfl : z = x := by simpa using h
      exact ⟨[], [], by simp [hn], by simp, by simp⟩
    | some y =>
      obtain ⟨a, b, he, ha, hb⟩ := ih hz
      by_cases hk : key y ≤ key z
      · simp only [hk, if_true]
        intro h
        obtain rfl : z = x := by simpa using h
        refine ⟨[], zs, rfl, by simp, fun w hw => ?_⟩
        rw [he] at hw
        rcases List.mem_append.1 hw with h1 | h1
        · exact le_of_lt (lt_of_lt_of_le (ha w h1) hk)
        · rcases List.mem_cons.1 h1 with h2 | h2
          · rw [h2]; exact hk
          · exact le_trans (hb w h2) hk
      · simp only [hk, if_false]
        intro h
        obtain rfl : y = x := by simpa using h
        refine ⟨z :: a, b, by simp [he], fun w hw => ?_, hb⟩
        rcases List.mem_cons.1 hw with h1 | h1
        · rw [h1]; omega
        · exact ha w h1

theorem pickMax_mem {α : Type} {key : α → Nat} {l : List α} {x : α} (h : pickMax key l = some x) : x ∈ l := by
  obtain ⟨a, b, he, -, -⟩ := pickMax_eq_some h
  simp [he]

/-- No item of the list has a greater key than the item picked. -/
theorem pickMax_max {α : Type} {key : α → Nat} {l : List α} {x y : α} (h : pickMax key l = some x) (m : y ∈ l) :
    key y ≤ key x := by
  obtain ⟨a, b, he, ha, hb⟩ := pickMax_eq_some h
  rw [he] at m
  rcases List.mem_append.1 m with h1 | h1
  · exact le_of_lt (ha y h1)
  · rcases List.mem_cons.1 h1 with h2 | h2
    · rw [h2]
    · exact hb y h2

/-! ### mapLast -/

@[simp] theorem mapLast_nil {α : Type} (f : α → α) : mapLast f [] = [] := rfl

@[simp] theorem mapLast_concat {α : Type} (f : α → α) (l : List α) (x : α) : mapLast f (l ++ [x]) = l ++ [f x] := by
  induction l with
  | nil => rfl
  | cons y t ih =>
    cases t with
    | nil => rfl
    | cons z t => simpa [mapLast] using ih

/-- The last item is changed and the others are kept. -/
theorem mapLast_of_getLast? {α : Type} {f : α → α} {l : List α} {x : α} (h : l.getLast? = some x) :
    mapLast f l = l.dropLast ++ [f x] := by
  obtain ⟨t, rfl⟩ := List.getLast?_eq_some_iff.1 h
  simp

@[simp] theorem mapLast_length {α : Type} (f : α → α) (l : List α) : (mapLast f l).length = l.length := by
  rcases List.eq_nil_or_concat l with rfl | ⟨t, x, rfl⟩ <;> simp

@[simp] theorem mapLast_dropLast {α : Type} (f : α → α) (l : List α) : (mapLast f l).dropLast = l.dropLast := by
  rcases List.eq_nil_or_concat l with rfl | ⟨t, x, rfl⟩ <;> simp

@[simp] theorem mapLast_getLast? {α : Type} (f : α → α) (l : List α) : (mapLast f l).getLast? = l.getLast?.map f := by
  rcases List.eq_nil_or_concat l with rfl | ⟨t, x, rfl⟩ <;> simp

/-- A field that the change of the last item keeps is kept by the whole list. -/
theorem mapLast_map {α β : Type} (f : α → α) (k : α → β) (h : ∀ x, k (f x) = k x) (l : List α) :
    (mapLast f l).map k = l.map k := by
  rcases List.eq_nil_or_concat l with rfl | ⟨t, x, rfl⟩ <;> simp [h]

/-- An item of the changed list is an item of the list or the change of one. -/
theorem mem_mapLast {α : Type} {f : α → α} {l : List α} {y : α} (h : y ∈ mapLast f l) : y ∈ l ∨ ∃ x ∈ l, y = f x := by
  rcases List.eq_nil_or_concat l with e | ⟨t, x, e⟩
  · rw [e] at h
    exact absurd h List.not_mem_nil
  · rw [e, List.concat_eq_append, mapLast_concat, List.mem_append, List.mem_singleton] at h
    rcases h with h | h
    · exact .inl (by simp [e, h])
    · exact .inr ⟨x, by simp [e], h⟩

end Sys2Proof.Machine
end

