-- ==== Sys2Proof/Laws/Frames.lean ====
section
/-! SUPPORT. What each shared operation leaves: one equation that names the fields it may change, and, for
the operations met most, the other fields one by one. -/

namespace Sys2Proof.Machine

/-- Handing records changes the log alone (R154, R155). -/
theorem handRecords_frame (bs : List RecordBody) (s : State) :
    handRecords bs s = { s with
      log := (handRecords bs s).log } := by
  rfl

/-- The ALERT trigger changes the lanes and the log alone (R159). -/
theorem alertTrigger_frame  (s : State) :
    alertTrigger s = { s with
      lanes := (alertTrigger s).lanes
      log := (alertTrigger s).log } := by
  unfold alertTrigger
  split
  · rfl
  · split <;> rfl

@[simp] theorem alertTrigger_lastGranted  (s : State) : (alertTrigger s).lastGranted = s.lastGranted := by rw [alertTrigger_frame]
@[simp] theorem alertTrigger_staged  (s : State) : (alertTrigger s).staged = s.staged := by rw [alertTrigger_frame]
@[simp] theorem alertTrigger_live  (s : State) : (alertTrigger s).live = s.live := by rw [alertTrigger_frame]
@[simp] theorem alertTrigger_generation  (s : State) : (alertTrigger s).generation = s.generation := by rw [alertTrigger_frame]
@[simp] theorem alertTrigger_dtt  (s : State) : (alertTrigger s).dtt = s.dtt := by rw [alertTrigger_frame]
@[simp] theorem alertTrigger_creationCounter  (s : State) : (alertTrigger s).creationCounter = s.creationCounter := by rw [alertTrigger_frame]
@[simp] theorem alertTrigger_queues  (s : State) : (alertTrigger s).queues = s.queues := by rw [alertTrigger_frame]
@[simp] theorem alertTrigger_fences  (s : State) : (alertTrigger s).fences = s.fences := by rw [alertTrigger_frame]
@[simp] theorem alertTrigger_drain  (s : State) : (alertTrigger s).drain = s.drain := by rw [alertTrigger_frame]
@[simp] theorem alertTrigger_failedWrites  (s : State) : (alertTrigger s).failedWrites = s.failedWrites := by rw [alertTrigger_frame]
@[simp] theorem alertTrigger_slots  (s : State) : (alertTrigger s).slots = s.slots := by rw [alertTrigger_frame]
@[simp] theorem alertTrigger_refillOrder  (s : State) : (alertTrigger s).refillOrder = s.refillOrder := by rw [alertTrigger_frame]
@[simp] theorem alertTrigger_engines  (s : State) : (alertTrigger s).engines = s.engines := by rw [alertTrigger_frame]
@[simp] theorem alertTrigger_manager  (s : State) : (alertTrigger s).manager = s.manager := by rw [alertTrigger_frame]
@[simp] theorem alertTrigger_gate  (s : State) : (alertTrigger s).gate = s.gate := by rw [alertTrigger_frame]
@[simp] theorem alertTrigger_params  (s : State) : (alertTrigger s).params = s.params := by rw [alertTrigger_frame]
@[simp] theorem alertTrigger_timebase  (s : State) : (alertTrigger s).timebase = s.timebase := by rw [alertTrigger_frame]
@[simp] theorem alertTrigger_pending  (s : State) : (alertTrigger s).pending = s.pending := by rw [alertTrigger_frame]

/-- The end of an event changes the lanes and the log alone (R156). -/
theorem recordEvent_frame (bs : List RecordBody) (s : State) :
    recordEvent bs s = { s with
      lanes := (recordEvent bs s).lanes
      log := (recordEvent bs s).log } := by
  unfold recordEvent
  split
  · rfl
  · rw [alertTrigger_frame, handRecords_frame]

@[simp] theorem recordEvent_lastGranted (bs : List RecordBody) (s : State) : (recordEvent bs s).lastGranted = s.lastGranted := by rw [recordEvent_frame]
@[simp] theorem recordEvent_staged (bs : List RecordBody) (s : State) : (recordEvent bs s).staged = s.staged := by rw [recordEvent_frame]
@[simp] theorem recordEvent_live (bs : List RecordBody) (s : State) : (recordEvent bs s).live = s.live := by rw [recordEvent_frame]
@[simp] theorem recordEvent_generation (bs : List RecordBody) (s : State) : (recordEvent bs s).generation = s.generation := by rw [recordEvent_frame]
@[simp] theorem recordEvent_dtt (bs : List RecordBody) (s : State) : (recordEvent bs s).dtt = s.dtt := by rw [recordEvent_frame]
@[simp] theorem recordEvent_creationCounter (bs : List RecordBody) (s : State) : (recordEvent bs s).creationCounter = s.creationCounter := by rw [recordEvent_frame]
@[simp] theorem recordEvent_queues (bs : List RecordBody) (s : State) : (recordEvent bs s).queues = s.queues := by rw [recordEvent_frame]
@[simp] theorem recordEvent_fences (bs : List RecordBody) (s : State) : (recordEvent bs s).fences = s.fences := by rw [recordEvent_frame]
@[simp] theorem recordEvent_drain (bs : List RecordBody) (s : State) : (recordEvent bs s).drain = s.drain := by rw [recordEvent_frame]
@[simp] theorem recordEvent_failedWrites (bs : List RecordBody) (s : State) : (recordEvent bs s).failedWrites = s.failedWrites := by rw [recordEvent_frame]
@[simp] theorem recordEvent_slots (bs : List RecordBody) (s : State) : (recordEvent bs s).slots = s.slots := by rw [recordEvent_frame]
@[simp] theorem recordEvent_refillOrder (bs : List RecordBody) (s : State) : (recordEvent bs s).refillOrder = s.refillOrder := by rw [recordEvent_frame]
@[simp] theorem recordEvent_engines (bs : List RecordBody) (s : State) : (recordEvent bs s).engines = s.engines := by rw [recordEvent_frame]
@[simp] theorem recordEvent_manager (bs : List RecordBody) (s : State) : (recordEvent bs s).manager = s.manager := by rw [recordEvent_frame]
@[simp] theorem recordEvent_gate (bs : List RecordBody) (s : State) : (recordEvent bs s).gate = s.gate := by rw [recordEvent_frame]
@[simp] theorem recordEvent_params (bs : List RecordBody) (s : State) : (recordEvent bs s).params = s.params := by rw [recordEvent_frame]
@[simp] theorem recordEvent_timebase (bs : List RecordBody) (s : State) : (recordEvent bs s).timebase = s.timebase := by rw [recordEvent_frame]
@[simp] theorem recordEvent_pending (bs : List RecordBody) (s : State) : (recordEvent bs s).pending = s.pending := by rw [recordEvent_frame]

/-- Closing a tail changes the queues alone (R77). -/
theorem closeTail_frame (g : Segment) (s : State) :
    closeTail g s = { s with
      queues := (closeTail g s).queues } := by
  rfl

@[simp] theorem closeTail_lanes (g : Segment) (s : State) : (closeTail g s).lanes = s.lanes := by rw [closeTail_frame]
@[simp] theorem closeTail_lastGranted (g : Segment) (s : State) : (closeTail g s).lastGranted = s.lastGranted := by rw [closeTail_frame]
@[simp] theorem closeTail_staged (g : Segment) (s : State) : (closeTail g s).staged = s.staged := by rw [closeTail_frame]
@[simp] theorem closeTail_live (g : Segment) (s : State) : (closeTail g s).live = s.live := by rw [closeTail_frame]
@[simp] theorem closeTail_generation (g : Segment) (s : State) : (closeTail g s).generation = s.generation := by rw [closeTail_frame]
@[simp] theorem closeTail_dtt (g : Segment) (s : State) : (closeTail g s).dtt = s.dtt := by rw [closeTail_frame]
@[simp] theorem closeTail_creationCounter (g : Segment) (s : State) : (closeTail g s).creationCounter = s.creationCounter := by rw [closeTail_frame]
@[simp] theorem closeTail_fences (g : Segment) (s : State) : (closeTail g s).fences = s.fences := by rw [closeTail_frame]
@[simp] theorem closeTail_drain (g : Segment) (s : State) : (closeTail g s).drain = s.drain := by rw [closeTail_frame]
@[simp] theorem closeTail_failedWrites (g : Segment) (s : State) : (closeTail g s).failedWrites = s.failedWrites := by rw [closeTail_frame]
@[simp] theorem closeTail_slots (g : Segment) (s : State) : (closeTail g s).slots = s.slots := by rw [closeTail_frame]
@[simp] theorem closeTail_refillOrder (g : Segment) (s : State) : (closeTail g s).refillOrder = s.refillOrder := by rw [closeTail_frame]
@[simp] theorem closeTail_engines (g : Segment) (s : State) : (closeTail g s).engines = s.engines := by rw [closeTail_frame]
@[simp] theorem closeTail_log (g : Segment) (s : State) : (closeTail g s).log = s.log := by rw [closeTail_frame]
@[simp] theorem closeTail_manager (g : Segment) (s : State) : (closeTail g s).manager = s.manager := by rw [closeTail_frame]
@[simp] theorem closeTail_gate (g : Segment) (s : State) : (closeTail g s).gate = s.gate := by rw [closeTail_frame]
@[simp] theorem closeTail_params (g : Segment) (s : State) : (closeTail g s).params = s.params := by rw [closeTail_frame]
@[simp] theorem closeTail_timebase (g : Segment) (s : State) : (closeTail g s).timebase = s.timebase := by rw [closeTail_frame]
@[simp] theorem closeTail_pending (g : Segment) (s : State) : (closeTail g s).pending = s.pending := by rw [closeTail_frame]

/-- Closing both tails changes the queues alone (R77). -/
theorem closeTails_frame  (s : State) :
    closeTails s = { s with
      queues := (closeTails s).queues } := by
  rfl

/-- Meeting barriers changes their holders alone (R91). -/
theorem meetBarriers_frame (g : Segment) (b : Seq) (s : State) :
    meetBarriers g b s = { s with
      dtt := (meetBarriers g b s).dtt
      slots := (meetBarriers g b s).slots
      fences := (meetBarriers g b s).fences
      drain := (meetBarriers g b s).drain } := by
  rfl

@[simp] theorem meetBarriers_lanes (g : Segment) (b : Seq) (s : State) : (meetBarriers g b s).lanes = s.lanes := by rw [meetBarriers_frame]
@[simp] theorem meetBarriers_lastGranted (g : Segment) (b : Seq) (s : State) : (meetBarriers g b s).lastGranted = s.lastGranted := by rw [meetBarriers_frame]
@[simp] theorem meetBarriers_staged (g : Segment) (b : Seq) (s : State) : (meetBarriers g b s).staged = s.staged := by rw [meetBarriers_frame]
@[simp] theorem meetBarriers_live (g : Segment) (b : Seq) (s : State) : (meetBarriers g b s).live = s.live := by rw [meetBarriers_frame]
@[simp] theorem meetBarriers_generation (g : Segment) (b : Seq) (s : State) : (meetBarriers g b s).generation = s.generation := by rw [meetBarriers_frame]
@[simp] theorem meetBarriers_creationCounter (g : Segment) (b : Seq) (s : State) : (meetBarriers g b s).creationCounter = s.creationCounter := by rw [meetBarriers_frame]
@[simp] theorem meetBarriers_queues (g : Segment) (b : Seq) (s : State) : (meetBarriers g b s).queues = s.queues := by rw [meetBarriers_frame]
@[simp] theorem meetBarriers_failedWrites (g : Segment) (b : Seq) (s : State) : (meetBarriers g b s).failedWrites = s.failedWrites := by rw [meetBarriers_frame]
@[simp] theorem meetBarriers_refillOrder (g : Segment) (b : Seq) (s : State) : (meetBarriers g b s).refillOrder = s.refillOrder := by rw [meetBarriers_frame]
@[simp] theorem meetBarriers_engines (g : Segment) (b : Seq) (s : State) : (meetBarriers g b s).engines = s.engines := by rw [meetBarriers_frame]
@[simp] theorem meetBarriers_log (g : Segment) (b : Seq) (s : State) : (meetBarriers g b s).log = s.log := by rw [meetBarriers_frame]
@[simp] theorem meetBarriers_manager (g : Segment) (b : Seq) (s : State) : (meetBarriers g b s).manager = s.manager := by rw [meetBarriers_frame]
@[simp] theorem meetBarriers_gate (g : Segment) (b : Seq) (s : State) : (meetBarriers g b s).gate = s.gate := by rw [meetBarriers_frame]
@[simp] theorem meetBarriers_params (g : Segment) (b : Seq) (s : State) : (meetBarriers g b s).params = s.params := by rw [meetBarriers_frame]
@[simp] theorem meetBarriers_timebase (g : Segment) (b : Seq) (s : State) : (meetBarriers g b s).timebase = s.timebase := by rw [meetBarriers_frame]
@[simp] theorem meetBarriers_pending (g : Segment) (b : Seq) (s : State) : (meetBarriers g b s).pending = s.pending := by rw [meetBarriers_frame]

/-- A failed entry changes the failed-write counts alone (R102). -/
theorem countFailedWrite_frame (o : Owner) (s : State) :
    countFailedWrite o s = { s with
      failedWrites := (countFailedWrite o s).failedWrites } := by
  unfold countFailedWrite
  split <;> rfl

@[simp] theorem countFailedWrite_lanes (o : Owner) (s : State) : (countFailedWrite o s).lanes = s.lanes := by rw [countFailedWrite_frame]
@[simp] theorem countFailedWrite_lastGranted (o : Owner) (s : State) : (countFailedWrite o s).lastGranted = s.lastGranted := by rw [countFailedWrite_frame]
@[simp] theorem countFailedWrite_staged (o : Owner) (s : State) : (countFailedWrite o s).staged = s.staged := by rw [countFailedWrite_frame]
@[simp] theorem countFailedWrite_live (o : Owner) (s : State) : (countFailedWrite o s).live = s.live := by rw [countFailedWrite_frame]
@[simp] theorem countFailedWrite_generation (o : Owner) (s : State) : (countFailedWrite o s).generation = s.generation := by rw [countFailedWrite_frame]
@[simp] theorem countFailedWrite_dtt (o : Owner) (s : State) : (countFailedWrite o s).dtt = s.dtt := by rw [countFailedWrite_frame]
@[simp] theorem countFailedWrite_creationCounter (o : Owner) (s : State) : (countFailedWrite o s).creationCounter = s.creationCounter := by rw [countFailedWrite_frame]
@[simp] theorem countFailedWrite_queues (o : Owner) (s : State) : (countFailedWrite o s).queues = s.queues := by rw [countFailedWrite_frame]
@[simp] theorem countFailedWrite_fences (o : Owner) (s : State) : (countFailedWrite o s).fences = s.fences := by rw [countFailedWrite_frame]
@[simp] theorem countFailedWrite_drain (o : Owner) (s : State) : (countFailedWrite o s).drain = s.drain := by rw [countFailedWrite_frame]
@[simp] theorem countFailedWrite_slots (o : Owner) (s : State) : (countFailedWrite o s).slots = s.slots := by rw [countFailedWrite_frame]
@[simp] theorem countFailedWrite_refillOrder (o : Owner) (s : State) : (countFailedWrite o s).refillOrder = s.refillOrder := by rw [countFailedWrite_frame]
@[simp] theorem countFailedWrite_engines (o : Owner) (s : State) : (countFailedWrite o s).engines = s.engines := by rw [countFailedWrite_frame]
@[simp] theorem countFailedWrite_log (o : Owner) (s : State) : (countFailedWrite o s).log = s.log := by rw [countFailedWrite_frame]
@[simp] theorem countFailedWrite_manager (o : Owner) (s : State) : (countFailedWrite o s).manager = s.manager := by rw [countFailedWrite_frame]
@[simp] theorem countFailedWrite_gate (o : Owner) (s : State) : (countFailedWrite o s).gate = s.gate := by rw [countFailedWrite_frame]
@[simp] theorem countFailedWrite_params (o : Owner) (s : State) : (countFailedWrite o s).params = s.params := by rw [countFailedWrite_frame]
@[simp] theorem countFailedWrite_timebase (o : Owner) (s : State) : (countFailedWrite o s).timebase = s.timebase := by rw [countFailedWrite_frame]
@[simp] theorem countFailedWrite_pending (o : Owner) (s : State) : (countFailedWrite o s).pending = s.pending := by rw [countFailedWrite_frame]

/-- A drop changes the slots and the request order alone (R118). -/
theorem dropSlot_frame (i : SlotIndex) (s : State) :
    dropSlot i s = { s with
      slots := (dropSlot i s).slots
      refillOrder := (dropSlot i s).refillOrder } := by
  rfl

@[simp] theorem dropSlot_lanes (i : SlotIndex) (s : State) : (dropSlot i s).lanes = s.lanes := by rw [dropSlot_frame]
@[simp] theorem dropSlot_lastGranted (i : SlotIndex) (s : State) : (dropSlot i s).lastGranted = s.lastGranted := by rw [dropSlot_frame]
@[simp] theorem dropSlot_staged (i : SlotIndex) (s : State) : (dropSlot i s).staged = s.staged := by rw [dropSlot_frame]
@[simp] theorem dropSlot_live (i : SlotIndex) (s : State) : (dropSlot i s).live = s.live := by rw [dropSlot_frame]
@[simp] theorem dropSlot_generation (i : SlotIndex) (s : State) : (dropSlot i s).generation = s.generation := by rw [dropSlot_frame]
@[simp] theorem dropSlot_dtt (i : SlotIndex) (s : State) : (dropSlot i s).dtt = s.dtt := by rw [dropSlot_frame]
@[simp] theorem dropSlot_creationCounter (i : SlotIndex) (s : State) : (dropSlot i s).creationCounter = s.creationCounter := by rw [dropSlot_frame]
@[simp] theorem dropSlot_queues (i : SlotIndex) (s : State) : (dropSlot i s).queues = s.queues := by rw [dropSlot_frame]
@[simp] theorem dropSlot_fences (i : SlotIndex) (s : State) : (dropSlot i s).fences = s.fences := by rw [dropSlot_frame]
@[simp] theorem dropSlot_drain (i : SlotIndex) (s : State) : (dropSlot i s).drain = s.drain := by rw [dropSlot_frame]
@[simp] theorem dropSlot_failedWrites (i : SlotIndex) (s : State) : (dropSlot i s).failedWrites = s.failedWrites := by rw [dropSlot_frame]
@[simp] theorem dropSlot_engines (i : SlotIndex) (s : State) : (dropSlot i s).engines = s.engines := by rw [dropSlot_frame]
@[simp] theorem dropSlot_log (i : SlotIndex) (s : State) : (dropSlot i s).log = s.log := by rw [dropSlot_frame]
@[simp] theorem dropSlot_manager (i : SlotIndex) (s : State) : (dropSlot i s).manager = s.manager := by rw [dropSlot_frame]
@[simp] theorem dropSlot_gate (i : SlotIndex) (s : State) : (dropSlot i s).gate = s.gate := by rw [dropSlot_frame]
@[simp] theorem dropSlot_params (i : SlotIndex) (s : State) : (dropSlot i s).params = s.params := by rw [dropSlot_frame]
@[simp] theorem dropSlot_timebase (i : SlotIndex) (s : State) : (dropSlot i s).timebase = s.timebase := by rw [dropSlot_frame]
@[simp] theorem dropSlot_pending (i : SlotIndex) (s : State) : (dropSlot i s).pending = s.pending := by rw [dropSlot_frame]

/-- Drops change the slots and the request order alone (R118). -/
theorem dropSlots_frame (p : StreamSlot → Bool) (s : State) :
    dropSlots p s = { s with
      slots := (dropSlots p s).slots
      refillOrder := (dropSlots p s).refillOrder } := by
  rfl

@[simp] theorem dropSlots_lanes (p : StreamSlot → Bool) (s : State) : (dropSlots p s).lanes = s.lanes := by rw [dropSlots_frame]
@[simp] theorem dropSlots_lastGranted (p : StreamSlot → Bool) (s : State) : (dropSlots p s).lastGranted = s.lastGranted := by rw [dropSlots_frame]
@[simp] theorem dropSlots_staged (p : StreamSlot → Bool) (s : State) : (dropSlots p s).staged = s.staged := by rw [dropSlots_frame]
@[simp] theorem dropSlots_live (p : StreamSlot → Bool) (s : State) : (dropSlots p s).live = s.live := by rw [dropSlots_frame]
@[simp] theorem dropSlots_generation (p : StreamSlot → Bool) (s : State) : (dropSlots p s).generation = s.generation := by rw [dropSlots_frame]
@[simp] theorem dropSlots_dtt (p : StreamSlot → Bool) (s : State) : (dropSlots p s).dtt = s.dtt := by rw [dropSlots_frame]
@[simp] theorem dropSlots_creationCounter (p : StreamSlot → Bool) (s : State) : (dropSlots p s).creationCounter = s.creationCounter := by rw [dropSlots_frame]
@[simp] theorem dropSlots_queues (p : StreamSlot → Bool) (s : State) : (dropSlots p s).queues = s.queues := by rw [dropSlots_frame]
@[simp] theorem dropSlots_fences (p : StreamSlot → Bool) (s : State) : (dropSlots p s).fences = s.fences := by rw [dropSlots_frame]
@[simp] theorem dropSlots_drain (p : StreamSlot → Bool) (s : State) : (dropSlots p s).drain = s.drain := by rw [dropSlots_frame]
@[simp] theorem dropSlots_failedWrites (p : StreamSlot → Bool) (s : State) : (dropSlots p s).failedWrites = s.failedWrites := by rw [dropSlots_frame]
@[simp] theorem dropSlots_engines (p : StreamSlot → Bool) (s : State) : (dropSlots p s).engines = s.engines := by rw [dropSlots_frame]
@[simp] theorem dropSlots_log (p : StreamSlot → Bool) (s : State) : (dropSlots p s).log = s.log := by rw [dropSlots_frame]
@[simp] theorem dropSlots_manager (p : StreamSlot → Bool) (s : State) : (dropSlots p s).manager = s.manager := by rw [dropSlots_frame]
@[simp] theorem dropSlots_gate (p : StreamSlot → Bool) (s : State) : (dropSlots p s).gate = s.gate := by rw [dropSlots_frame]
@[simp] theorem dropSlots_params (p : StreamSlot → Bool) (s : State) : (dropSlots p s).params = s.params := by rw [dropSlots_frame]
@[simp] theorem dropSlots_timebase (p : StreamSlot → Bool) (s : State) : (dropSlots p s).timebase = s.timebase := by rw [dropSlots_frame]
@[simp] theorem dropSlots_pending (p : StreamSlot → Bool) (s : State) : (dropSlots p s).pending = s.pending := by rw [dropSlots_frame]

/-- The copy of a COMMIT changes LIVE and the generation alone (R11). -/
theorem commitBanks_frame  (s : State) :
    commitBanks s = { s with
      live := (commitBanks s).live
      generation := (commitBanks s).generation } := by
  rfl

/-- A head that leaves changes its queue and the holders of barriers alone (R83, R91). -/
theorem retireHead_frame (g : Segment) (s : State) :
    retireHead g s = { s with
      queues := (retireHead g s).queues
      dtt := (retireHead g s).dtt
      slots := (retireHead g s).slots
      fences := (retireHead g s).fences
      drain := (retireHead g s).drain } := by
  unfold retireHead
  split <;> rfl

@[simp] theorem retireHead_lanes (g : Segment) (s : State) : (retireHead g s).lanes = s.lanes := by rw [retireHead_frame]
@[simp] theorem retireHead_lastGranted (g : Segment) (s : State) : (retireHead g s).lastGranted = s.lastGranted := by rw [retireHead_frame]
@[simp] theorem retireHead_staged (g : Segment) (s : State) : (retireHead g s).staged = s.staged := by rw [retireHead_frame]
@[simp] theorem retireHead_live (g : Segment) (s : State) : (retireHead g s).live = s.live := by rw [retireHead_frame]
@[simp] theorem retireHead_generation (g : Segment) (s : State) : (retireHead g s).generation = s.generation := by rw [retireHead_frame]
@[simp] theorem retireHead_creationCounter (g : Segment) (s : State) : (retireHead g s).creationCounter = s.creationCounter := by rw [retireHead_frame]
@[simp] theorem retireHead_failedWrites (g : Segment) (s : State) : (retireHead g s).failedWrites = s.failedWrites := by rw [retireHead_frame]
@[simp] theorem retireHead_refillOrder (g : Segment) (s : State) : (retireHead g s).refillOrder = s.refillOrder := by rw [retireHead_frame]
@[simp] theorem retireHead_engines (g : Segment) (s : State) : (retireHead g s).engines = s.engines := by rw [retireHead_frame]
@[simp] theorem retireHead_log (g : Segment) (s : State) : (retireHead g s).log = s.log := by rw [retireHead_frame]
@[simp] theorem retireHead_manager (g : Segment) (s : State) : (retireHead g s).manager = s.manager := by rw [retireHead_frame]
@[simp] theorem retireHead_gate (g : Segment) (s : State) : (retireHead g s).gate = s.gate := by rw [retireHead_frame]
@[simp] theorem retireHead_params (g : Segment) (s : State) : (retireHead g s).params = s.params := by rw [retireHead_frame]
@[simp] theorem retireHead_timebase (g : Segment) (s : State) : (retireHead g s).timebase = s.timebase := by rw [retireHead_frame]
@[simp] theorem retireHead_pending (g : Segment) (s : State) : (retireHead g s).pending = s.pending := by rw [retireHead_frame]

/-- A head that stays changes its queue alone (R81). -/
theorem setHead_frame (g : Segment) (e : QueueEntry) (s : State) :
    setHead g e s = { s with
      queues := (setHead g e s).queues } := by
  rfl

/-- A fault changes the entries alone, among the table's part of it (R60). -/
theorem faultEntries_frame (g : Segment) (s : State) :
    faultEntries g s = { s with
      dtt := (faultEntries g s).dtt } := by
  rfl

/-- A refill request changes the slots, their order and a queue's tail alone (R113). -/
theorem requestRefill_frame (i : SlotIndex) (s : State) :
    requestRefill i s = { s with
      queues := (requestRefill i s).queues
      slots := (requestRefill i s).slots
      refillOrder := (requestRefill i s).refillOrder } := by
  unfold requestRefill
  dsimp only
  split <;> rfl

@[simp] theorem requestRefill_lanes (i : SlotIndex) (s : State) : (requestRefill i s).lanes = s.lanes := by rw [requestRefill_frame]
@[simp] theorem requestRefill_lastGranted (i : SlotIndex) (s : State) : (requestRefill i s).lastGranted = s.lastGranted := by rw [requestRefill_frame]
@[simp] theorem requestRefill_staged (i : SlotIndex) (s : State) : (requestRefill i s).staged = s.staged := by rw [requestRefill_frame]
@[simp] theorem requestRefill_live (i : SlotIndex) (s : State) : (requestRefill i s).live = s.live := by rw [requestRefill_frame]
@[simp] theorem requestRefill_generation (i : SlotIndex) (s : State) : (requestRefill i s).generation = s.generation := by rw [requestRefill_frame]
@[simp] theorem requestRefill_dtt (i : SlotIndex) (s : State) : (requestRefill i s).dtt = s.dtt := by rw [requestRefill_frame]
@[simp] theorem requestRefill_creationCounter (i : SlotIndex) (s : State) : (requestRefill i s).creationCounter = s.creationCounter := by rw [requestRefill_frame]
@[simp] theorem requestRefill_fences (i : SlotIndex) (s : State) : (requestRefill i s).fences = s.fences := by rw [requestRefill_frame]
@[simp] theorem requestRefill_drain (i : SlotIndex) (s : State) : (requestRefill i s).drain = s.drain := by rw [requestRefill_frame]
@[simp] theorem requestRefill_failedWrites (i : SlotIndex) (s : State) : (requestRefill i s).failedWrites = s.failedWrites := by rw [requestRefill_frame]
@[simp] theorem requestRefill_engines (i : SlotIndex) (s : State) : (requestRefill i s).engines = s.engines := by rw [requestRefill_frame]
@[simp] theorem requestRefill_log (i : SlotIndex) (s : State) : (requestRefill i s).log = s.log := by rw [requestRefill_frame]
@[simp] theorem requestRefill_manager (i : SlotIndex) (s : State) : (requestRefill i s).manager = s.manager := by rw [requestRefill_frame]
@[simp] theorem requestRefill_gate (i : SlotIndex) (s : State) : (requestRefill i s).gate = s.gate := by rw [requestRefill_frame]
@[simp] theorem requestRefill_params (i : SlotIndex) (s : State) : (requestRefill i s).params = s.params := by rw [requestRefill_frame]
@[simp] theorem requestRefill_timebase (i : SlotIndex) (s : State) : (requestRefill i s).timebase = s.timebase := by rw [requestRefill_frame]
@[simp] theorem requestRefill_pending (i : SlotIndex) (s : State) : (requestRefill i s).pending = s.pending := by rw [requestRefill_frame]

/-- A slot taken changes what a refill request changes (R112). -/
theorem fillSlot_frame (o : Owner) (k : WindowIndex) (g : Segment) (next : Word) (i : SlotIndex) (s : State) :
    fillSlot o k g next i s = { s with
      queues := (fillSlot o k g next i s).queues
      slots := (fillSlot o k g next i s).slots
      refillOrder := (fillSlot o k g next i s).refillOrder } := by
  unfold fillSlot
  rw [requestRefill_frame]
  rfl

/-- Allocation steps 3 to 5 change what a refill request changes (R111). -/
theorem takeSlot_frame (o : Owner) (k : WindowIndex) (g : Segment) (next : Word) (s : State) :
    takeSlot o k g next s = { s with
      queues := (takeSlot o k g next s).queues
      slots := (takeSlot o k g next s).slots
      refillOrder := (takeSlot o k g next s).refillOrder } := by
  unfold takeSlot
  split
  · rw [fillSlot_frame]
  · rfl

/-- Allocation changes what a refill request changes (R110, R111). -/
theorem allocateSlot_frame (o : Owner) (k : WindowIndex) (g : Segment) (a : Word) (w : Nat) (s : State) :
    allocateSlot o k g a w s = { s with
      queues := (allocateSlot o k g a w s).queues
      slots := (allocateSlot o k g a w s).slots
      refillOrder := (allocateSlot o k g a w s).refillOrder } := by
  unfold allocateSlot
  dsimp only
  split
  · rfl
  · split
    · split
      · rw [takeSlot_frame, dropSlot_frame]
      · rw [fillSlot_frame]
    · rw [takeSlot_frame]

/-- Serving changes what a refill request changes (R117). -/
theorem serveSlot_frame (i : SlotIndex) (w : Nat) (s : State) :
    serveSlot i w s = { s with
      queues := (serveSlot i w s).queues
      slots := (serveSlot i w s).slots
      refillOrder := (serveSlot i w s).refillOrder } := by
  unfold serveSlot
  dsimp only
  split
  · rfl
  · rw [requestRefill_frame]
    rfl

/-- Freeing the records changes them alone (R105). -/
theorem freeRecords_frame  (s : State) :
    freeRecords s = { s with
      fences := (freeRecords s).fences
      drain := (freeRecords s).drain } := by
  rfl

/-- A completed or freed FENCE changes a record and a count alone (R96, R103). -/
theorem clearFence_frame (n : LaneId) (s : State) :
    clearFence n s = { s with
      fences := (clearFence n s).fences
      failedWrites := (clearFence n s).failedWrites } := by
  rfl

/-- An engine made BUSY changes the engines alone (R137). -/
theorem startCycle_frame (g : Segment) (c : Cycle) (s : State) :
    startCycle g c s = { s with
      engines := (startCycle g c s).engines } := by
  rfl

/-- A remembered grant changes the engines alone (R136). -/
theorem markWF_frame (g : Segment) (x : WorF) (s : State) :
    markWF g x s = { s with
      engines := (markWF g x s).engines } := by
  rfl

/-- A counted outcome changes the engines alone (R141). -/
theorem countOutcome_frame (g : Segment) (c : Cycle) (o : CycleOutcome) (s : State) :
    countOutcome g c o s = { s with
      engines := (countOutcome g c o s).engines } := by
  rfl

/-- An engine made IDLE changes the engines alone (R138). -/
theorem engineIdle_frame (g : Segment) (s : State) :
    engineIdle g s = { s with
      engines := (engineIdle g s).engines } := by
  rfl

/-- The taking changes the lane and the last lane granted alone (R17, R18). -/
theorem beginTaking_frame (n : LaneId) (s : State) :
    beginTaking n s = { s with
      lanes := (beginTaking n s).lanes
      lastGranted := (beginTaking n s).lastGranted } := by
  rfl

@[simp] theorem beginTaking_staged (n : LaneId) (s : State) : (beginTaking n s).staged = s.staged := by rw [beginTaking_frame]
@[simp] theorem beginTaking_live (n : LaneId) (s : State) : (beginTaking n s).live = s.live := by rw [beginTaking_frame]
@[simp] theorem beginTaking_generation (n : LaneId) (s : State) : (beginTaking n s).generation = s.generation := by rw [beginTaking_frame]
@[simp] theorem beginTaking_dtt (n : LaneId) (s : State) : (beginTaking n s).dtt = s.dtt := by rw [beginTaking_frame]
@[simp] theorem beginTaking_creationCounter (n : LaneId) (s : State) : (beginTaking n s).creationCounter = s.creationCounter := by rw [beginTaking_frame]
@[simp] theorem beginTaking_queues (n : LaneId) (s : State) : (beginTaking n s).queues = s.queues := by rw [beginTaking_frame]
@[simp] theorem beginTaking_fences (n : LaneId) (s : State) : (beginTaking n s).fences = s.fences := by rw [beginTaking_frame]
@[simp] theorem beginTaking_drain (n : LaneId) (s : State) : (beginTaking n s).drain = s.drain := by rw [beginTaking_frame]
@[simp] theorem beginTaking_failedWrites (n : LaneId) (s : State) : (beginTaking n s).failedWrites = s.failedWrites := by rw [beginTaking_frame]
@[simp] theorem beginTaking_slots (n : LaneId) (s : State) : (beginTaking n s).slots = s.slots := by rw [beginTaking_frame]
@[simp] theorem beginTaking_refillOrder (n : LaneId) (s : State) : (beginTaking n s).refillOrder = s.refillOrder := by rw [beginTaking_frame]
@[simp] theorem beginTaking_engines (n : LaneId) (s : State) : (beginTaking n s).engines = s.engines := by rw [beginTaking_frame]
@[simp] theorem beginTaking_log (n : LaneId) (s : State) : (beginTaking n s).log = s.log := by rw [beginTaking_frame]
@[simp] theorem beginTaking_manager (n : LaneId) (s : State) : (beginTaking n s).manager = s.manager := by rw [beginTaking_frame]
@[simp] theorem beginTaking_gate (n : LaneId) (s : State) : (beginTaking n s).gate = s.gate := by rw [beginTaking_frame]
@[simp] theorem beginTaking_params (n : LaneId) (s : State) : (beginTaking n s).params = s.params := by rw [beginTaking_frame]
@[simp] theorem beginTaking_timebase (n : LaneId) (s : State) : (beginTaking n s).timebase = s.timebase := by rw [beginTaking_frame]
@[simp] theorem beginTaking_pending (n : LaneId) (s : State) : (beginTaking n s).pending = s.pending := by rw [beginTaking_frame]

/-- The end of the role changes the role, alert outstanding and the drain record alone (R166). -/
theorem endRole_frame  (s : State) :
    endRole s = { s with
      drain := (endRole s).drain
      log := (endRole s).log
      manager := (endRole s).manager } := by
  rfl

@[simp] theorem endRole_lanes  (s : State) : (endRole s).lanes = s.lanes := by rw [endRole_frame]
@[simp] theorem endRole_lastGranted  (s : State) : (endRole s).lastGranted = s.lastGranted := by rw [endRole_frame]
@[simp] theorem endRole_staged  (s : State) : (endRole s).staged = s.staged := by rw [endRole_frame]
@[simp] theorem endRole_live  (s : State) : (endRole s).live = s.live := by rw [endRole_frame]
@[simp] theorem endRole_generation  (s : State) : (endRole s).generation = s.generation := by rw [endRole_frame]
@[simp] theorem endRole_dtt  (s : State) : (endRole s).dtt = s.dtt := by rw [endRole_frame]
@[simp] theorem endRole_creationCounter  (s : State) : (endRole s).creationCounter = s.creationCounter := by rw [endRole_frame]
@[simp] theorem endRole_queues  (s : State) : (endRole s).queues = s.queues := by rw [endRole_frame]
@[simp] theorem endRole_fences  (s : State) : (endRole s).fences = s.fences := by rw [endRole_frame]
@[simp] theorem endRole_failedWrites  (s : State) : (endRole s).failedWrites = s.failedWrites := by rw [endRole_frame]
@[simp] theorem endRole_slots  (s : State) : (endRole s).slots = s.slots := by rw [endRole_frame]
@[simp] theorem endRole_refillOrder  (s : State) : (endRole s).refillOrder = s.refillOrder := by rw [endRole_frame]
@[simp] theorem endRole_engines  (s : State) : (endRole s).engines = s.engines := by rw [endRole_frame]
@[simp] theorem endRole_gate  (s : State) : (endRole s).gate = s.gate := by rw [endRole_frame]
@[simp] theorem endRole_params  (s : State) : (endRole s).params = s.params := by rw [endRole_frame]
@[simp] theorem endRole_timebase  (s : State) : (endRole s).timebase = s.timebase := by rw [endRole_frame]
@[simp] theorem endRole_pending  (s : State) : (endRole s).pending = s.pending := by rw [endRole_frame]

/-- The cleared counts change the engines alone (R149). -/
theorem zeroFailures_frame  (s : State) :
    zeroFailures s = { s with
      engines := (zeroFailures s).engines } := by
  rfl

end Sys2Proof.Machine
end

