-- ==== Sys2Proof/Laws/Events.lean ====
section
/-! SUPPORT. What the events of the engines, the timers and the lanes leave, in the form of Laws/Frames.lean. -/

namespace Sys2Proof.Machine

/-- A discard expiry changes the table, the log and a lane alone (R57). -/
theorem discardEvent_frame (i : EntryIndex) (s : State) :
    discardEvent i s = { s with
      lanes := (discardEvent i s).lanes
      dtt := (discardEvent i s).dtt
      log := (discardEvent i s).log } := by
  unfold discardEvent
  split
  · rw [recordEvent_frame]
    rfl
  · rfl

/-- An idle expiry changes the slots and their order alone (R120). -/
theorem idleEvent_frame (i : SlotIndex) (s : State) :
    idleEvent i s = { s with
      slots := (idleEvent i s).slots
      refillOrder := (idleEvent i s).refillOrder } := by
  unfold idleEvent
  split
  · rw [dropSlot_frame]
  · rfl

/-- A close time changes the queues alone (R78). -/
theorem closeTimeEvent_frame (g : Segment) (s : State) :
    closeTimeEvent g s = { s with
      queues := (closeTimeEvent g s).queues } := by
  unfold closeTimeEvent
  split
  · split
    · rw [closeTail_frame]
    · rfl
  · rfl

/-- A grant changes the engine and the item alone (R137). -/
theorem startItem_frame (g : Segment) (item : WorkItem) (s : State) :
    startItem g item s = { s with
      dtt := (startItem g item s).dtt
      slots := (startItem g item s).slots
      refillOrder := (startItem g item s).refillOrder
      engines := (startItem g item s).engines } := by
  unfold startItem
  split
  · split <;> rfl
  · rfl
  · split <;> rfl

/-- A grant event changes the engine and the item alone (R135). -/
theorem grantEvent_frame (g : Segment) (s : State) :
    grantEvent g s = { s with
      dtt := (grantEvent g s).dtt
      slots := (grantEvent g s).slots
      refillOrder := (grantEvent g s).refillOrder
      engines := (grantEvent g s).engines } := by
  unfold grantEvent
  split
  · split
    · rw [startItem_frame]
    · rfl
  · rfl

/-- A claim changes the engines alone (R128). -/
theorem claimEvent_frame (g : Segment) (s : State) :
    claimEvent g s = { s with
      engines := (claimEvent g s).engines } := by
  unfold claimEvent
  split
  · split
    · split <;> rfl
    · rfl
  · rfl

/-- A word changes the engines alone (R129). -/
theorem wordEvent_frame (g : Segment) (w : Word) (q : BitVec 4) (s : State) :
    wordEvent g w q s = { s with
      engines := (wordEvent g w q s).engines } := by
  unfold wordEvent
  split
  · split <;> rfl
  · rfl

/-- A response changes the lanes and, with the trigger, the log (R18). -/
theorem respond_frame (n : LaneId) (tag : BitVec 4) (r : Reply) (s : State) :
    respond n tag r s = { s with
      lanes := (respond n tag r s).lanes
      log := (respond n tag r s).log } := by
  unfold respond
  dsimp only
  split
  · rw [alertTrigger_frame]
    rfl
  · rfl

/-- The first steps of a departure change the lane and the role alone (R191). -/
theorem leaveLane_frame (n : LaneId) (s : State) :
    leaveLane n s = { s with
      lanes := (leaveLane n s).lanes
      drain := (leaveLane n s).drain
      log := (leaveLane n s).log
      manager := (leaveLane n s).manager } := by
  unfold leaveLane
  dsimp only
  split <;> rfl
/-! ### The discard of a queue -/

/-- The entries discarded one after another (R85, R86). -/
def discardEntries (g : Segment) (es : List QueueEntry) (s : State) : State :=
  es.foldl (fun t e => countFailedWrite e.owner (meetBarriers g e.seq t)) s

theorem discardQueue_eq (g : Segment) (c : Cause) (s : State) :
    (discardQueue g c s).1 = (discardEntries g (s.queues.get g).entries s).setQueue g
      { s.queues.get g with entries := [], retired := (s.queues.get g).counter } := rfl

@[simp] theorem discardEntries_nil (g : Segment) (s : State) : discardEntries g [] s = s := rfl

theorem discardEntries_cons (g : Segment) (e : QueueEntry) (es : List QueueEntry) (s : State) :
    discardEntries g (e :: es) s = discardEntries g es (countFailedWrite e.owner (meetBarriers g e.seq s)) := rfl

/-- The discarded entries change the holders of barriers and the counts alone. -/
theorem discardEntries_frame (g : Segment) (es : List QueueEntry) (s : State) :
    discardEntries g es s = { s with
      dtt := (discardEntries g es s).dtt
      fences := (discardEntries g es s).fences
      drain := (discardEntries g es s).drain
      failedWrites := (discardEntries g es s).failedWrites
      slots := (discardEntries g es s).slots } := by
  induction es generalizing s with
  | nil => rfl
  | cons e es ih =>
    rw [discardEntries_cons, ih, countFailedWrite_frame, meetBarriers_frame]

/-- A discard changes the queue, the holders of barriers and the counts alone (R85, R86). -/
theorem discardQueue_frame (g : Segment) (c : Cause) (s : State) :
    (discardQueue g c s).1 = { s with
      dtt := ((discardQueue g c s).1).dtt
      queues := ((discardQueue g c s).1).queues
      fences := ((discardQueue g c s).1).fences
      drain := ((discardQueue g c s).1).drain
      failedWrites := ((discardQueue g c s).1).failedWrites
      slots := ((discardQueue g c s).1).slots } := by
  rw [discardQueue_eq, discardEntries_frame]
  rfl

/-- The discards of a queue's entries, taken in order, make of a barrier what AfterDiscard says (R91). -/
theorem Barrier.afterDiscard_foldl (q : PostedQueue) (x : Barrier) :
    x.AfterDiscard q (q.entries.foldl (fun y e => y.meet e.seq) x) := by
  have value (b : Seq) (y : Barrier) : (y.meet b).value = y.value := by
    unfold Barrier.meet; split <;> rfl
  have named (b : Seq) (y : Barrier) (h : y.value = some b) : y.meet b = { value := y.value, met := true } :=
    if_pos h
  have other (b : Seq) (y : Barrier) (h : y.value ≠ some b) : y.meet b = y := if_neg h
  unfold Barrier.AfterDiscard
  generalize q.entries = es
  induction es generalizing x with
  | nil => exact ⟨fun ⟨e, he, _⟩ => absurd he (List.not_mem_nil), fun _ => rfl⟩
  | cons e es ih =>
    rw [List.foldl_cons]
    obtain ⟨h1, h2⟩ := ih (x.meet e.seq)
    rw [value] at h1 h2
    by_cases hx : x.value = some e.seq
    · refine ⟨fun _ => ?_, fun h => absurd hx (h e (List.mem_cons_self ..))⟩
      by_cases hes : ∃ e' ∈ es, x.value = some e'.seq
      · exact h1 hes
      · rw [h2 fun e' he' hv => hes ⟨e', he', hv⟩, named _ _ hx]
    · rw [other _ _ hx] at h1 h2 ⊢
      refine ⟨fun ⟨e', he', hv⟩ => ?_, fun h => h2 fun e' he' => h e' (List.mem_cons_of_mem _ he')⟩
      rcases List.mem_cons.mp he' with rfl | hm
      · exact absurd hv hx
      · exact h1 ⟨e', hm, hv⟩

/-- A head that retires failed changes its queue, the holders of barriers and a count alone (R84). -/
theorem retireFailed_frame (g : Segment) (e : QueueEntry) (f : FailReason) (s : State) :
    (retireFailed g e f s).1 = { s with
      dtt := ((retireFailed g e f s).1).dtt
      queues := ((retireFailed g e f s).1).queues
      fences := ((retireFailed g e f s).1).fences
      drain := ((retireFailed g e f s).1).drain
      failedWrites := ((retireFailed g e f s).1).failedWrites
      slots := ((retireFailed g e f s).1).slots } := by
  unfold retireFailed
  dsimp only
  rw [countFailedWrite_frame, retireHead_frame]

/-- The end of a queue entry's cycle changes its queue, the holders of barriers and a count alone (R81). -/
theorem queueCycleEnd_frame (g : Segment) (seq : Seq) (r : CycleResult) (s : State) :
    (queueCycleEnd g seq r s).1 = { s with
      dtt := ((queueCycleEnd g seq r s).1).dtt
      queues := ((queueCycleEnd g seq r s).1).queues
      fences := ((queueCycleEnd g seq r s).1).fences
      drain := ((queueCycleEnd g seq r s).1).drain
      failedWrites := ((queueCycleEnd g seq r s).1).failedWrites
      slots := ((queueCycleEnd g seq r s).1).slots } := by
  unfold queueCycleEnd
  split
  · rfl
  · split
    · split
      · dsimp only
        rw [retireHead_frame]
      · dsimp only
        rw [setHead_frame]
      · split
        · dsimp only
          rw [setHead_frame]
        · rw [retireFailed_frame]
      all_goals rw [retireFailed_frame]
    · rfl

/-- The end of an entry's cycle changes the table alone (R52, R63). -/
theorem entryCycleEnd_frame (i : EntryIndex) (r : CycleResult) (s : State) :
    (entryCycleEnd i r s).1 = { s with
      dtt := ((entryCycleEnd i r s).1).dtt } := by
  unfold entryCycleEnd
  dsimp only
  split <;> rfl

/-- A release changes the table alone (R62). -/
theorem releaseEntries_frame (p : DttEntry → Bool) (s : State) :
    (releaseEntries p s).1 = { s with
      dtt := ((releaseEntries p s).1).dtt } := by
  rfl

/-- A failed refill changes the slots and their order alone (R116). -/
theorem failRefill_frame (i : SlotIndex) (f : FailReason) (s : State) :
    (failRefill i f s).1 = { s with
      slots := ((failRefill i f s).1).slots
      refillOrder := ((failRefill i f s).1).refillOrder } := by
  rfl

/-- The end of a refill cycle changes what a refill request changes (R115). -/
theorem fillingCycleEnd_frame (i : SlotIndex) (p : PendingRefill) (r : CycleResult) (s : State) :
    (fillingCycleEnd i p r s).1 = { s with
      queues := ((fillingCycleEnd i p r s).1).queues
      slots := ((fillingCycleEnd i p r s).1).slots
      refillOrder := ((fillingCycleEnd i p r s).1).refillOrder } := by
  unfold fillingCycleEnd
  dsimp only
  split
  · rw [requestRefill_frame]
    rfl
  · rfl
  · split
    · rfl
    · rw [failRefill_frame]
  all_goals rw [failRefill_frame]

/-- The end of a slot's cycle changes what a refill request changes (R115, R123). -/
theorem slotCycleEnd_frame (i : SlotIndex) (r : CycleResult) (s : State) :
    (slotCycleEnd i r s).1 = { s with
      queues := ((slotCycleEnd i r s).1).queues
      slots := ((slotCycleEnd i r s).1).slots
      refillOrder := ((slotCycleEnd i r s).1).refillOrder } := by
  unfold slotCycleEnd
  split
  · rw [fillingCycleEnd_frame]
  all_goals rfl

/-- The owner's handling changes neither the engines nor the log (R139). -/
theorem ownerCycleEnd_frame (g : Segment) (item : WorkItem) (r : CycleResult) (s : State) :
    (ownerCycleEnd g item r s).1 = { s with
      dtt := ((ownerCycleEnd g item r s).1).dtt
      queues := ((ownerCycleEnd g item r s).1).queues
      fences := ((ownerCycleEnd g item r s).1).fences
      drain := ((ownerCycleEnd g item r s).1).drain
      failedWrites := ((ownerCycleEnd g item r s).1).failedWrites
      slots := ((ownerCycleEnd g item r s).1).slots
      refillOrder := ((ownerCycleEnd g item r s).1).refillOrder } := by
  unfold ownerCycleEnd
  split
  · rw [queueCycleEnd_frame]
  · rw [entryCycleEnd_frame]
  · rw [slotCycleEnd_frame]

/-- A fault changes the segment's items, the counts and the engine alone (R144). -/
theorem faultSegment_frame (g : Segment) (f : FailReason) (s : State) :
    (faultSegment g f s).1 = { s with
      dtt := ((faultSegment g f s).1).dtt
      queues := ((faultSegment g f s).1).queues
      fences := ((faultSegment g f s).1).fences
      drain := ((faultSegment g f s).1).drain
      failedWrites := ((faultSegment g f s).1).failedWrites
      slots := ((faultSegment g f s).1).slots
      refillOrder := ((faultSegment g f s).1).refillOrder
      engines := ((faultSegment g f s).1).engines } := by
  unfold faultSegment
  dsimp only
  rw [dropSlots_frame, faultEntries_frame, discardQueue_frame]
  rfl

/-- The fault test changes what a fault changes (R143). -/
theorem faultTest_frame (g : Segment) (c : Cycle) (o : CycleOutcome) (s : State) :
    (faultTest g c o s).1 = { s with
      dtt := ((faultTest g c o s).1).dtt
      queues := ((faultTest g c o s).1).queues
      fences := ((faultTest g c o s).1).fences
      drain := ((faultTest g c o s).1).drain
      failedWrites := ((faultTest g c o s).1).failedWrites
      slots := ((faultTest g c o s).1).slots
      refillOrder := ((faultTest g c o s).1).refillOrder
      engines := ((faultTest g c o s).1).engines } := by
  unfold faultTest
  split
  · rw [faultSegment_frame]
  · rfl
/-! ### The work of a segment -/

/-- Only the work path and what records touch differ: the lanes, the table, the queues, the fence unit, the slots, the
engines and the log. -/
abbrev WorkOnly (s t : State) : Prop :=
  t = { s with
    lanes := t.lanes
    dtt := t.dtt
    queues := t.queues
    fences := t.fences
    drain := t.drain
    failedWrites := t.failedWrites
    slots := t.slots
    refillOrder := t.refillOrder
    engines := t.engines
    log := t.log }

theorem workOnly_trans {s t u : State} (h : WorkOnly s t) (k : WorkOnly t u) : WorkOnly s u := by
  rw [WorkOnly] at h k ⊢
  rw [h] at k
  exact k

theorem ownerCycleEnd_workOnly (g : Segment) (item : WorkItem) (r : CycleResult) (s : State) :
    WorkOnly s (ownerCycleEnd g item r s).1 := by
  rw [WorkOnly, ownerCycleEnd_frame]

theorem countOutcome_workOnly (g : Segment) (c : Cycle) (o : CycleOutcome) (s : State) :
    WorkOnly s (countOutcome g c o s) := rfl

theorem faultTest_workOnly (g : Segment) (c : Cycle) (o : CycleOutcome) (s : State) :
    WorkOnly s (faultTest g c o s).1 := by
  rw [WorkOnly, faultTest_frame]

theorem engineIdle_workOnly (g : Segment) (s : State) : WorkOnly s (engineIdle g s) := rfl

theorem recordEvent_workOnly (bs : List RecordBody) (s : State) : WorkOnly s (recordEvent bs s) := by
  rw [WorkOnly, recordEvent_frame]

/-- The end of a cycle changes neither the window table, nor the intake, nor the role, gate, parameters or timebase
(R138). -/
theorem endCycle_frame (g : Segment) (c : Cycle) (e : Ending) (s : State) :
    endCycle g c e s = { s with
      lanes := (endCycle g c e s).lanes
      dtt := (endCycle g c e s).dtt
      queues := (endCycle g c e s).queues
      fences := (endCycle g c e s).fences
      drain := (endCycle g c e s).drain
      failedWrites := (endCycle g c e s).failedWrites
      slots := (endCycle g c e s).slots
      refillOrder := (endCycle g c e s).refillOrder
      engines := (endCycle g c e s).engines
      log := (endCycle g c e s).log } := by
  exact workOnly_trans (workOnly_trans (workOnly_trans (workOnly_trans
    (ownerCycleEnd_workOnly g c.item (c.result e) s) (countOutcome_workOnly g c (c.result e).outcome _))
    (faultTest_workOnly g c (c.result e).outcome _)) (engineIdle_workOnly g _)) (recordEvent_workOnly _ _)

/-- A target's ending changes what the end of a cycle changes (R130). -/
theorem cycleEndEvent_frame (g : Segment) (x : TargetEnding) (s : State) :
    cycleEndEvent g x s = { s with
      lanes := (cycleEndEvent g x s).lanes
      dtt := (cycleEndEvent g x s).dtt
      queues := (cycleEndEvent g x s).queues
      fences := (cycleEndEvent g x s).fences
      drain := (cycleEndEvent g x s).drain
      failedWrites := (cycleEndEvent g x s).failedWrites
      slots := (cycleEndEvent g x s).slots
      refillOrder := (cycleEndEvent g x s).refillOrder
      engines := (cycleEndEvent g x s).engines
      log := (cycleEndEvent g x s).log } := by
  unfold cycleEndEvent
  split
  · split
    · rw [endCycle_frame]
    · rfl
  · rfl

/-- A claim limit changes what the end of a cycle changes (R128). -/
theorem claimLimitEvent_frame (g : Segment) (s : State) :
    claimLimitEvent g s = { s with
      lanes := (claimLimitEvent g s).lanes
      dtt := (claimLimitEvent g s).dtt
      queues := (claimLimitEvent g s).queues
      fences := (claimLimitEvent g s).fences
      drain := (claimLimitEvent g s).drain
      failedWrites := (claimLimitEvent g s).failedWrites
      slots := (claimLimitEvent g s).slots
      refillOrder := (claimLimitEvent g s).refillOrder
      engines := (claimLimitEvent g s).engines
      log := (claimLimitEvent g s).log } := by
  unfold claimLimitEvent
  split
  · split
    · rw [endCycle_frame]
    · rfl
  · rfl

/-- A hold limit changes what the end of a cycle changes (R129). -/
theorem holdLimitEvent_frame (g : Segment) (s : State) :
    holdLimitEvent g s = { s with
      lanes := (holdLimitEvent g s).lanes
      dtt := (holdLimitEvent g s).dtt
      queues := (holdLimitEvent g s).queues
      fences := (holdLimitEvent g s).fences
      drain := (holdLimitEvent g s).drain
      failedWrites := (holdLimitEvent g s).failedWrites
      slots := (holdLimitEvent g s).slots
      refillOrder := (holdLimitEvent g s).refillOrder
      engines := (holdLimitEvent g s).engines
      log := (holdLimitEvent g s).log } := by
  unfold holdLimitEvent
  split
  · split
    · rw [endCycle_frame]
    · rfl
  · rfl

/-- The release of a lane's items changes the table, the slots, the record and the count alone (R191, R193). -/
theorem releaseLane_frame (n : LaneId) (s : State) :
    (releaseLane n s).1 = { s with
      dtt := ((releaseLane n s).1).dtt
      fences := ((releaseLane n s).1).fences
      failedWrites := ((releaseLane n s).1).failedWrites
      slots := ((releaseLane n s).1).slots
      refillOrder := ((releaseLane n s).1).refillOrder } := by
  unfold releaseLane
  dsimp only
  rw [clearFence_frame, dropSlots_frame, releaseEntries_frame]

/-- A departure leaves the window table, the queues, the engines, the gate, the parameters and the timebase (R191). -/
theorem departLane_frame (n : LaneId) (s : State) :
    departLane n s = { s with
      lanes := (departLane n s).lanes
      dtt := (departLane n s).dtt
      fences := (departLane n s).fences
      drain := (departLane n s).drain
      failedWrites := (departLane n s).failedWrites
      slots := (departLane n s).slots
      refillOrder := (departLane n s).refillOrder
      log := (departLane n s).log
      manager := (departLane n s).manager } := by
  unfold departLane
  dsimp only
  rw [recordEvent_frame, releaseLane_frame, leaveLane_frame]

/-! ### Commands taken one after another -/

@[simp] theorem Runs_nil (s t : State) : Runs [] s t ↔ s = t := Iff.rfl

@[simp] theorem Runs_cons (c : Instr) (cs : List Instr) (s t : State) :
    Runs (c :: cs) s t ↔ ∃ u, exec c s = .next u ∧ Runs cs u t := Iff.rfl

/-- A run of one list and then of another is a run of both. -/
theorem Runs_append {cs ds : List Instr} {s t u : State} (h : Runs cs s t) (k : Runs ds t u) : Runs (cs ++ ds) s u := by
  induction cs generalizing s with
  | nil => rw [Runs_nil] at h; subst h; exact k
  | cons c cs ih =>
    obtain ⟨v, hv, hr⟩ := h
    exact ⟨v, hv, ih hr⟩

/-- Commands that each answer by an event of their operand run to the fold of the events. -/
theorem Runs_map {α : Type} {command : α → Instr} {event : α → State → State}
    (h : ∀ a s, exec (command a) s = .next (event a s)) (l : List α) (s : State) :
    Runs (l.map command) s (l.foldl (fun t a => event a t) s) := by
  induction l generalizing s with
  | nil => rfl
  | cons a l ih => exact ⟨event a s, h a s, ih (event a s)⟩

end Sys2Proof.Machine
end

