-- ==== Sys2Proof/Laws/Cases.lean ====
section
/-! SUPPORT. What each shared operation can do, case by case, with the condition of each case. -/

namespace Sys2Proof.Machine

/-! ### The step -/

/-- A step idles on an empty queue or runs the command at the front. -/
theorem step_cases (s : State) :
    (s.pending = [] ∧ step s = .next s) ∨
      ∃ c rest, s.pending = c :: rest ∧ step s = exec c { s with pending := rest } := by
  unfold step
  cases h : s.pending with
  | nil => exact .inl ⟨rfl, rfl⟩
  | cons c rest => exact .inr ⟨c, rest, rfl, rfl⟩

/-! ### Records and the ALERT -/

/-- A record is stored or lost (R154, R155). -/
theorem ExceptionLog.hand_cases (l : ExceptionLog) (now : Time) (b : RecordBody) :
    (l.records.length < 64 ∧ l.hand now b =
      { l with records := l.records ++ [{ seq := l.counter, time := now, body := b }], counter := l.counter + 1 }) ∨
    (64 ≤ l.records.length ∧ l.hand now b = { l with lost := min (l.lost + 1) 65535 }) := by
  unfold ExceptionLog.hand
  split
  · exact .inl ⟨‹_›, rfl⟩
  · exact .inr ⟨Nat.le_of_not_lt ‹_›, rfl⟩

/-- The trigger changes nothing, or places an ALERT on the manager lane and notes it (R159). -/
theorem alertTrigger_cases (s : State) :
    alertTrigger s = s ∨
      ∃ m, s.manager = some m ∧ s.params.alerts = true ∧ s.log.alertOutstanding = false ∧
        alertTrigger s = { s with
          lanes := s.lanes.set m (s.lanes[m].placeAlert s.log.records.length s.log.lost)
          log := { s.log with alertOutstanding := true } } := by
  unfold alertTrigger
  split
  · exact .inl rfl
  · rename_i m hm
    split
    · rename_i h
      simp only [Bool.and_eq_true, Bool.not_eq_true'] at h
      exact .inr ⟨m, hm, h.1, h.2, rfl⟩
    · exact .inl rfl

/-- An event with no record ends as it is; else its records are handed and the trigger is applied (R156, R159). -/
theorem recordEvent_cases (bs : List RecordBody) (s : State) :
    (bs = [] ∧ recordEvent bs s = s) ∨ (bs ≠ [] ∧ recordEvent bs s = alertTrigger { s with log := s.logAfter bs }) := by
  cases bs with
  | nil => exact .inl ⟨rfl, rfl⟩
  | cons b bs => exact .inr ⟨by simp, rfl⟩

/-- The log changes record by record. -/
theorem State.logAfter_cons (s : State) (b : RecordBody) (bs : List RecordBody) :
    s.logAfter (b :: bs) = { s with log := s.log.hand s.timebase b }.logAfter bs := rfl

/-! ### Barriers, counts, the queues -/

/-- A barrier that is met after an entry has left was met before or named it (R91). -/
theorem Barrier.meet_met (b : Seq) (x : Barrier) : (x.meet b).met = true ↔ x.met = true ∨ x.value = some b := by
  unfold Barrier.meet
  split <;> simp [*]

@[simp] theorem Barrier.meet_value (b : Seq) (x : Barrier) : (x.meet b).value = x.value := by
  unfold Barrier.meet
  split <;> rfl

/-- A count rises or nothing changes (R102). -/
theorem countFailedWrite_cases (o : Owner) (s : State) :
    (s.lanes[o.lane].state = .up ∧ s.lanes[o.lane].epoch = o.epoch ∧ countFailedWrite o s =
      { s with failedWrites := s.failedWrites.set o.lane (min (s.failedWrites[o.lane] + 1) 255) }) ∨
    (¬(s.lanes[o.lane].state = .up ∧ s.lanes[o.lane].epoch = o.epoch) ∧ countFailedWrite o s = s) := by
  unfold countFailedWrite
  split
  · rename_i h
    exact .inl ⟨h.1, h.2, rfl⟩
  · exact .inr ⟨‹_›, rfl⟩

/-- Closing a tail changes close times alone, and of the newest entry alone (R77). -/
theorem PostedQueue.closeTail_eq (q : PostedQueue) :
    q.closeTail = { q with entries := mapLast QueueEntry.close q.entries } := rfl

/-- A write handed to a queue is merged, refused or a new entry (R72). -/
theorem acceptPosted_cases (o : Owner) (k : WindowIndex) (a : SegAddr) (ws : List WriteWord) (s : State) :
    let g := s.live[k].segment
    let q := s.queues.get g
    (∃ e, q.tail = some e ∧ e.merges o k s.live[k].merge a ws = true ∧ acceptPosted o k a ws s = some
      (s.setQueue g { q with entries := q.entries.dropLast ++ [e.append ws] })) ∨
    ((∀ e ∈ q.tail, e.merges o k s.live[k].merge a ws = false) ∧ q.entries.length < 32 ∧
      acceptPosted o k a ws s = some (s.setQueue g (q.push (newQueueEntry s o k a ws (q.counter + 1))))) ∨
    ((∀ e ∈ q.tail, e.merges o k s.live[k].merge a ws = false) ∧ 32 ≤ q.entries.length ∧
      acceptPosted o k a ws s = none) := by
  intro g q
  unfold acceptPosted
  cases ht : q.tail with
  | none =>
    simp only [show s.queues.get s.live[k].segment = q from rfl, ht, Option.any_none, Bool.false_eq_true, if_false]
    split
    · exact .inr (.inl ⟨by simp, ‹_›, rfl⟩)
    · exact .inr (.inr ⟨by simp, Nat.le_of_not_lt ‹_›, rfl⟩)
  | some e =>
    simp only [show s.queues.get s.live[k].segment = q from rfl, ht, Option.any_some]
    split
    · rename_i hm
      refine .inl ⟨e, rfl, hm, ?_⟩
      rw [mapLast_of_getLast? (show q.entries.getLast? = some e from ht)]
    · rename_i hm
      have hm' : ∀ x ∈ some e, x.merges o k s.live[k].merge a ws = false := by
        intro x hx
        cases hx
        simpa using hm
      split
      · exact .inr (.inl ⟨hm', ‹_›, rfl⟩)
      · exact .inr (.inr ⟨hm', Nat.le_of_not_lt ‹_›, rfl⟩)

/-- A queue with no head is left; a head leaves with its number and the barriers that name it (R83, R91). -/
theorem retireHead_cases (g : Segment) (s : State) :
    ((s.queues.get g).entries = [] ∧ retireHead g s = s) ∨
      ∃ e rest, (s.queues.get g).entries = e :: rest ∧ retireHead g s =
        meetBarriers g e.seq (s.setQueue g { s.queues.get g with entries := rest, retired := e.seq }) := by
  unfold retireHead
  cases h : (s.queues.get g).entries with
  | nil => exact .inl ⟨rfl, rfl⟩
  | cons e rest => exact .inr ⟨e, rest, rfl, rfl⟩

/-- The end of a queue entry's cycle: ignored, retired with success, kept as head with a word done or a BACKOFF more,
or retired failed (R81). -/
theorem queueCycleEnd_cases (g : Segment) (seq : Seq) (r : CycleResult) (s : State) :
    queueCycleEnd g seq r s = (s, []) ∨
      ∃ e rest, (s.queues.get g).entries = e :: rest ∧ e.seq = seq ∧
        (queueCycleEnd g seq r s = (retireHead g s, []) ∨
          (∃ p b, queueCycleEnd g seq r s = (setHead g { e with progress := p, backoff := b } s, [])) ∨
          ∃ f, queueCycleEnd g seq r s = retireFailed g e f s) := by
  unfold queueCycleEnd
  cases h : (s.queues.get g).entries with
  | nil => exact .inl rfl
  | cons e rest =>
    simp only [List.head?_cons]
    split
    · rename_i hs
      refine .inr ⟨e, rest, rfl, hs, ?_⟩
      split
      · exact .inl rfl
      · exact .inr (.inl ⟨_, _, rfl⟩)
      · split
        · exact .inr (.inl ⟨e.progress, e.backoff + 1, rfl⟩)
        · exact .inr (.inr ⟨_, rfl⟩)
      all_goals exact .inr (.inr ⟨_, rfl⟩)
    · exact .inl rfl

/-! ### The table -/

/-- A creation takes the FREE entry of lowest index, closes the tail and advances the counter, or nothing is created
(R42, R45, R46). -/
theorem createEntry_cases (o : Owner) (kind : EntryKind) (a : Word) (w : Nat) (ws : List WriteWord) (k : WindowIndex)
    (s : State) :
    (createEntry o kind a w ws k s = none ∧
      ((∀ i : EntryIndex, s.dtt[i].state ≠ .free) ∨ s.params.quota ≤ quotaCount o s)) ∨
    ∃ i : EntryIndex, s.dtt[i].state = .free ∧ (∀ j : EntryIndex, j < i → s.dtt[j].state ≠ .free) ∧
      quotaCount o s < s.params.quota ∧ createEntry o kind a w ws k s = some
        { (closeTail s.live[k].segment s).setEntry i (newEntry o kind a w ws k s) with
          creationCounter := s.creationCounter + 1 } := by
  unfold createEntry
  cases h : findFirst (fun e => decide (e.state = .free)) s.dtt with
  | none =>
    rw [findFirst_eq_none] at h
    exact .inl ⟨rfl, .inl fun i => by simpa using h i⟩
  | some i =>
    rw [findFirst_eq_some] at h
    dsimp only
    split
    · exact .inr ⟨i, by simpa using h.1, fun j hj => by simpa using h.2 j hj, ‹_›, rfl⟩
    · exact .inl ⟨rfl, .inr (Nat.le_of_not_lt ‹_›)⟩

/-- An entry at the end of its cycle is READY or PARTIAL (R52). -/
theorem DttEntry.endIssued_cases (s : State) (r : CycleResult) (e : DttEntry) :
    (∃ o d p b, e.endIssued s r = DttEntry.makeReady s o { e with readData := d, progress := p, backoff := b }) ∨
      ∃ d p b, e.endIssued s r = { e with state := .partly, readData := d, progress := p, backoff := b } := by
  unfold DttEntry.endIssued
  split
  · exact .inl ⟨_, _, _, _, rfl⟩
  · exact .inr ⟨_, _, _, rfl⟩
  · split
    · exact .inr ⟨e.readData, e.progress, e.backoff + 1, rfl⟩
    · exact .inl ⟨_, _, _, _, rfl⟩
  all_goals exact .inl ⟨_, e.readData, e.progress, e.backoff, rfl⟩

/-- The end of an entry's cycle, by the entry's state (R52, R63). -/
theorem entryCycleEnd_cases (i : EntryIndex) (r : CycleResult) (s : State) :
    (s.dtt[i].state = .issued ∧ entryCycleEnd i r s = (s.setEntry i (s.dtt[i].endIssued s r), [])) ∨
    (s.dtt[i].state = .abandoned ∧ ∃ bs, entryCycleEnd i r s = (s.setEntry i DttEntry.cleared, bs)) ∨
    (s.dtt[i].state ≠ .issued ∧ s.dtt[i].state ≠ .abandoned ∧ entryCycleEnd i r s = (s, [])) := by
  unfold entryCycleEnd
  dsimp only
  split <;> simp_all

/-- A released entry is as it was, FREE, or ABANDONED (R62). -/
theorem DttEntry.release_cases (e : DttEntry) :
    (e.release = e ∧ (e.state = .free ∨ e.state = .abandoned)) ∨
    (e.release = DttEntry.cleared ∧ (e.state = .queued ∨ e.state = .partly ∨ e.state = .ready)) ∨
    (e.release = { e with state := .abandoned } ∧ e.state = .issued) := by
  unfold DttEntry.release
  cases h : e.state <;> simp

/-! ### The slots -/

/-- A dropped slot is as it was, EMPTY, or RETIRING with its refill (R118). -/
theorem StreamSlot.drop_cases (x : StreamSlot) :
    (x.drop = x ∧ (x.state = .empty ∨ x.state = .retiring)) ∨
    (x.drop = StreamSlot.cleared ∧ (x.state = .holding ∨ x.state = .filling ∧ x.inCycle = false)) ∨
    (x.drop = { x with state := .retiring, held := [] } ∧ x.state = .filling ∧ x.inCycle = true) := by
  unfold StreamSlot.drop
  cases h : x.state <;> simp
  by_cases k : x.inCycle = true <;> simp [k]

/-- A refill is requested when it is due, and nothing changes when it is not (R113). -/
theorem requestRefill_cases (i : SlotIndex) (s : State) :
    (s.slots[i].wantsRefill = false ∧ requestRefill i s = s) ∨
    (s.slots[i].wantsRefill = true ∧
      let x := s.slots[i]
      let t := (closeTail x.segment s).setSlot i (x.withRefill (s.queues.get x.segment).tailBarrier)
      requestRefill i s = { t with refillOrder := t.refillOrder.set x.segment (t.refillOrder.get x.segment ++ [i]) }) := by
  unfold requestRefill
  dsimp only
  split
  · exact .inr ⟨‹_›, rfl⟩
  · exact .inl ⟨Bool.eq_false_iff.2 ‹_›, rfl⟩

/-- An allocation is declined, fills a slot, or fails, with the owner's slot in a cycle retired before (R110, R111). -/
theorem allocateSlot_cases (o : Owner) (k : WindowIndex) (g : Segment) (a : Word) (w : Nat) (s : State) :
    let next := a + BitVec.ofNat 32 (4 * w)
    allocateSlot o k g a w s = s ∨
    (∃ i, ownSlot o s = some i ∧ s.slots[i].inCycle = false ∧ allocateSlot o k g a w s = fillSlot o k g next i s) ∨
    ∃ t, (t = s ∧ ownSlot o s = none ∨ ∃ i, ownSlot o s = some i ∧ s.slots[i].inCycle = true ∧ t = dropSlot i s) ∧
      ((chooseSlot o t = none ∧ allocateSlot o k g a w s = t) ∨
        ∃ j, chooseSlot o t = some j ∧ allocateSlot o k g a w s = fillSlot o k g next j t) := by
  intro next
  unfold allocateSlot
  dsimp only
  split
  · exact .inl rfl
  · refine .inr ?_
    cases ho : ownSlot o s with
    | none =>
      refine .inr ⟨s, .inl ⟨rfl, rfl⟩, ?_⟩
      unfold takeSlot
      cases hc : chooseSlot o s with
      | none => exact .inl ⟨rfl, rfl⟩
      | some j => exact .inr ⟨j, rfl, rfl⟩
    | some i =>
      dsimp only
      split
      · rename_i hi
        refine .inr ⟨dropSlot i s, .inr ⟨i, rfl, hi, rfl⟩, ?_⟩
        unfold takeSlot
        cases hc : chooseSlot o (dropSlot i s) with
        | none => exact .inl ⟨rfl, rfl⟩
        | some j => exact .inr ⟨j, rfl, rfl⟩
      · exact .inl ⟨i, rfl, Bool.eq_false_iff.2 ‹_›, rfl⟩

/-- The slot that allocation chooses is EMPTY, or HOLDING of another owner (R111). -/
theorem chooseSlot_state {o : Owner} {s : State} {i : SlotIndex} (h : chooseSlot o s = some i) :
    s.slots[i].state = .empty ∨ s.slots[i].state = .holding ∧ s.slots[i].owner ≠ o := by
  unfold chooseSlot at h
  cases hf : findFirst (fun x => decide (x.state = .empty)) s.slots with
  | some j =>
    rw [hf] at h
    obtain rfl : j = i := by simpa using h
    rw [findFirst_eq_some] at hf
    exact .inl (by simpa using hf.1)
  | none =>
    rw [hf] at h
    have := pickMax_mem h
    exact .inr (by simpa using this)

/-- The end of a slot's cycle, by the slot's state (R115, R123). -/
theorem slotCycleEnd_cases (i : SlotIndex) (r : CycleResult) (s : State) :
    slotCycleEnd i r s = (s, []) ∨
    (s.slots[i].state = .retiring ∧ slotCycleEnd i r s = (s.setSlot i StreamSlot.cleared, [])) ∨
    ∃ p, s.slots[i].state = .filling ∧ s.slots[i].refill = some p ∧ slotCycleEnd i r s = fillingCycleEnd i p r s := by
  unfold slotCycleEnd
  split
  · exact .inr (.inr ⟨_, ‹_›, ‹_›, rfl⟩)
  · exact .inl rfl
  · exact .inr (.inl ⟨‹_›, rfl⟩)
  · exact .inl rfl
  · exact .inl rfl

/-! ### The engines -/

/-- A grant event changes nothing, or starts the item that the arbiter chose on an IDLE engine of an ENABLED segment
(R135). -/
theorem grantEvent_cases (g : Segment) (s : State) :
    grantEvent g s = s ∨
      ∃ item, (s.engine g).cycle = none ∧ (s.engine g).state = .enabled ∧ arbiter g s = some item ∧
        grantEvent g s = startItem g item s := by
  unfold grantEvent
  split
  · rename_i h
    cases ha : arbiter g s with
    | none => exact .inl rfl
    | some item => exact .inr ⟨item, by simpa [Engine.idle] using h.1, h.2, rfl, rfl⟩
  · exact .inl rfl

/-- Candidate F is on its segment and QUEUED with its barrier met, or PARTIAL (R50). -/
theorem candidateF_grantable {g : Segment} {s : State} {i : EntryIndex} (h : candidateF g s = some i) :
    s.dtt[i].grantable g = true := by
  have := pickMax_mem h
  simpa using this

/-- Candidate R is in the request order of its segment and may be granted (R114). -/
theorem candidateR_grantable {g : Segment} {s : State} {i : SlotIndex} (h : candidateR g s = some i) :
    i ∈ s.refillOrder.get g ∧ s.slots[i].grantable = true := by
  unfold candidateR at h
  exact ⟨List.mem_of_find?_eq_some h, by simpa using List.find?_some h⟩

/-- What the arbiter chooses is one of the three candidates (R136). -/
theorem arbiter_cases {g : Segment} {s : State} {item : WorkItem} (h : arbiter g s = some item) :
    (∃ e, candidateW g s = some e ∧ item = .queueEntry e.seq) ∨ (∃ i, candidateF g s = some i ∧ item = .dttEntry i) ∨
      ∃ i, candidateR g s = some i ∧ item = .streamSlot i := by
  unfold arbiter at h
  split at h
  · rename_i e i hw hf
    split at h
    · exact .inl ⟨e, hw, by simpa using h.symm⟩
    · split at h
      · exact .inr (.inl ⟨i, hf, by simpa using h.symm⟩)
      · exact .inl ⟨e, hw, by simpa using h.symm⟩
  · exact .inl ⟨_, ‹_›, by simpa using h.symm⟩
  · exact .inr (.inl ⟨_, ‹_›, by simpa using h.symm⟩)
  · rw [Option.map_eq_some_iff] at h
    obtain ⟨i, hi, rfl⟩ := h
    exact .inr (.inr ⟨i, hi, rfl⟩)

/-- The fault test leaves the state or faults the segment (R143). -/
theorem faultTest_cases (g : Segment) (c : Cycle) (o : CycleOutcome) (s : State) :
    faultTest g c o s = (s, []) ∨
      ∃ f, (s.engine g).state ≠ .faulted ∧ c.countedFailure o = some f ∧ faultTest g c o s = faultSegment g f s := by
  unfold faultTest
  split
  · rename_i f hf
    unfold faultCause at hf
    split at hf
    · rename_i hc
      exact .inr ⟨f, hc.1, hf, rfl⟩
    · simp at hf
  · exact .inl rfl

/-! ### The intake -/

/-- A parcel that the intake takes is the oldest of an eligible lane (R17). -/
theorem nextTaking_some {s : State} {t : Taking} (h : nextTaking s = some t) :
    s.lanes[t.lane].eligible = true ∧ s.lanes[t.lane].rx.head? = some t.parcel := by
  unfold nextTaking at h
  cases hf : (laneOrder s.lastGranted).find? (fun n => s.lanes[n].eligible) with
  | none =>
    rw [hf] at h
    exact absurd h (by simp)
  | some n =>
    have he : s.lanes[n].eligible = true := List.find?_some (p := fun m : LaneId => s.lanes[m].eligible) hf
    rw [hf] at h
    dsimp only at h
    cases hr : s.lanes[n].rx with
    | nil =>
      rw [hr] at h
      exact absurd h (by simp)
    | cons p ps =>
      rw [hr] at h
      obtain rfl := Option.some.inj h
      exact ⟨he, by rw [hr]; rfl⟩

/-- Nothing is taken, or the handler of the parcel's request acts on the state without the parcel and one response is
placed (R18). -/
theorem takeParcel_cases (handler : LaneId → Request → Option Handler) (s : State) :
    takeParcel handler s = s ∨
      ∃ t h, nextTaking s = some t ∧ handler t.lane (requestOf t.parcel) = some h ∧
        takeParcel handler s =
          respond t.lane (tagOf t.parcel) (h (beginTaking t.lane s)).2 (h (beginTaking t.lane s)).1 := by
  unfold takeParcel
  cases ht : nextTaking s with
  | none => exact .inl rfl
  | some t =>
    dsimp only
    cases hh : handler t.lane (requestOf t.parcel) with
    | none => exact .inl rfl
    | some h => exact .inr ⟨t, h, rfl, hh, rfl⟩

/-- The checks answer, or the window found admits the access (R30 to R32). -/
theorem checkWindow_cases (n : LaneId) (x : Access) (a : Word) (s : State) :
    (∃ r, checkWindow n x a s = .error r ∧ r.trigger = false) ∨ ∃ k, Admitted s n x a k ∧ checkWindow n x a s = .ok k := by
  unfold checkWindow
  cases hl : lookup s.live a with
  | none => exact .inl ⟨_, rfl, rfl⟩
  | some k =>
    dsimp only
    split
    · exact .inl ⟨_, rfl, rfl⟩
    · rename_i hp
      cases hm : s.live[k].modeRefusal x with
      | some r => exact .inl ⟨_, rfl, rfl⟩
      | none =>
        dsimp only
        split
        · exact .inl ⟨_, rfl, rfl⟩
        · exact .inr ⟨k, ⟨hl, by simpa using hp, hm, ‹_›⟩, rfl⟩

/-- A management operation is refused with nothing changed, or carried out (R164). -/
theorem manage_cases (op : MgmtOp) (effect : LaneId → List Word → State → Option (State × Reply)) (n : LaneId)
    (args : List Word) (s : State) :
    (∃ r, manage op effect n args s = (s, r) ∧ r.trigger = false ∧ ∃ x, r.status = .refused x) ∨
      ∃ out, roleRefusal op n s.manager = none ∧ args.length = op.argCount ∧ effect n args s = some out ∧
        manage op effect n args s = out := by
  have hr : ∀ r, roleRefusal op n s.manager = some r → r.trigger = false ∧ ∃ x, r.status = .refused x := by
    intro r h
    unfold roleRefusal at h
    cases op <;> simp only at h
    case claim =>
      split at h
      · split at h
        · simp at h
        · obtain rfl := Option.some.inj h
          exact ⟨rfl, _, rfl⟩
      · simp at h
    case getStatus => simp at h
    all_goals
      split at h
      · simp at h
      · obtain rfl := Option.some.inj h
        exact ⟨rfl, _, rfl⟩
  unfold manage
  cases h : roleRefusal op n s.manager with
  | some r => exact .inl ⟨r, rfl, (hr r h).1, (hr r h).2⟩
  | none =>
    dsimp only
    split
    · cases he : effect n args s with
      | some out => exact .inr ⟨out, rfl, ‹_›, rfl, rfl⟩
      | none => exact .inl ⟨_, rfl, rfl, _, rfl⟩
    · exact .inl ⟨_, rfl, rfl, _, rfl⟩

end Sys2Proof.Machine
end

