-- ==== Sys2Proof/Laws/Answers.lean ====
section
/-! SUPPORT. The taking of a parcel and its answer as one change of the state before the taking: the equations by which
a statement about an intake command is reduced to what its handler does. -/

namespace Sys2Proof.Machine

/-! ### The state without the parcel -/

/-- The lanes while a parcel of lane n is handled: the parcel is out of its receive buffer (R18). -/
theorem beginTaking_lanes_self (n : LaneId) (s : State) :
    (beginTaking n s).lanes = s.lanes.set n { s.lanes[n] with rx := s.lanes[n].rx.tail } := rfl

/-- The taking of a parcel changes no lane's state and no lane's epoch. -/
theorem beginTaking_lane (n m : LaneId) (s : State) :
    (beginTaking n s).lanes[m].state = s.lanes[m].state ∧ (beginTaking n s).lanes[m].epoch = s.lanes[m].epoch := by
  rw [beginTaking_lanes_self, table_set]
  split
  · rename_i h
    subst h
    exact ⟨rfl, rfl⟩
  · exact ⟨rfl, rfl⟩

@[simp] theorem beginTaking_currentOwner (n m : LaneId) (s : State) :
    (beginTaking n s).currentOwner m = s.currentOwner m := by
  unfold State.currentOwner
  rw [(beginTaking_lane n m s).2]

@[simp] theorem beginTaking_engine (n : LaneId) (s : State) (g : Segment) : (beginTaking n s).engine g = s.engine g := rfl

/-! ### One parcel taken -/

/-- The handler of the parcel's request acts on the state without the parcel, and its answer is placed (R18). -/
theorem takeParcel_taken {handler : LaneId → Request → Option Handler} {s : State} {n : LaneId} {p : Parcel}
    {h : Handler} (ht : nextTaking s = some { lane := n, parcel := p }) (hh : handler n (requestOf p) = some h) :
    takeParcel handler s = respond n (tagOf p) (h (beginTaking n s)).2 (h (beginTaking n s)).1 := by
  unfold takeParcel
  rw [ht]
  dsimp only
  rw [hh]

/-- A row that does not handle the next parcel changes nothing (notes/assumptions/1.md). -/
theorem takeParcel_other {handler : LaneId → Request → Option Handler} {s : State}
    (h : ∀ t, nextTaking s = some t → handler t.lane (requestOf t.parcel) = none) : takeParcel handler s = s := by
  unfold takeParcel
  cases ht : nextTaking s with
  | none => rfl
  | some t =>
    dsimp only
    rw [h t ht]

/-- A MGMT parcel of the operation is handled by the management agent (R37). -/
theorem takeMgmt_taken {op : MgmtOp} {effect : LaneId → List Word → State → Option (State × Reply)} {s : State}
    {n : LaneId} {p : Parcel} {args : List Word} (h : TakesMgmt s n p op args) :
    takeMgmt op effect s = respond n (tagOf p) (manage op effect n args (beginTaking n s)).2
      (manage op effect n args (beginTaking n s)).1 := by
  unfold takeMgmt
  exact takeParcel_taken h.1 (by rw [h.2]; exact if_pos rfl)

/-- An answer placed on a state that differs from the state before the taking by the taken parcel alone, and by what
the handler did elsewhere (R18). -/
theorem respond_answered {n : LaneId} {tag : BitVec 4} {r : Reply} {s v w : State} (hl : v.lanes = s.lanes)
    (hw : w = { v with lanes := (beginTaking n s).lanes, lastGranted := n }) :
    respond n tag r w =
      if r.trigger = true then alertTrigger (answered v n { status := r.status, tag := tag, info := r.info, data := r.data })
      else answered v n { status := r.status, tag := tag, info := r.info, data := r.data } := by
  subst hw
  have e : State.modifyLane { v with lanes := (beginTaking n s).lanes, lastGranted := n } n
      (fun l => l.pushResponse { status := r.status, tag := tag, info := r.info, data := r.data }) =
      answered v n { status := r.status, tag := tag, info := r.info, data := r.data } := by
    unfold State.modifyLane answered
    rw [beginTaking_lanes_self, hl, table_set_self, Vector.set_set]
    rfl
  unfold respond
  dsimp only
  rw [e]

/-- An answer without an ALERT trigger to a parcel whose handling changed nothing else. -/
theorem respond_beginTaking {n : LaneId} {tag : BitVec 4} {r : Reply} {s : State} (ht : r.trigger = false) :
    respond n tag r (beginTaking n s) = answered s n { status := r.status, tag := tag, info := r.info, data := r.data } := by
  rw [respond_answered (v := s) (w := beginTaking n s) rfl rfl, ht]
  rfl

/-- What an answered parcel leaves of the lanes. -/
theorem answered_lane (s : State) (n m : LaneId) (r : Response) :
    (answered s n r).lanes[m] =
      if n = m then { s.lanes[n] with rx := s.lanes[n].rx.tail, tx := s.lanes[n].tx ++ [.response r] } else s.lanes[m] := by
  unfold answered
  rw [table_set]

end Sys2Proof.Machine
end

