-- ==== Sys2Proof/WellFormed.lean ====
section
/-! DEFINITION. The static check of a command. Lanes, segments, entries and slots are in range by their types. What
is left to check is that a delivered parcel has the two header words of R195. The machine is total without it: a
one-word parcel is answered REFUSED MALFORMED (notes/assumptions/4.md). -/

namespace Sys2Proof

/-- The parcel has its second header word (R195). -/
def Parcel.hasHeader (p : Parcel) : Bool := !p.rest.isEmpty

/-- The static check of a command. -/
def Instr.wellFormed : Instr → Bool
  | .parcelDelivery _ p => p.hasHeader
  | .powerOnReset | .timebaseAdvance | .arrival _ | .departure _ | .parcelSend _ | .malformedParcel | .read | .write
  | .fence | .claim | .release | .openGate | .closeGate | .stageWindow | .readWindow | .commit | .setParameter
  | .getParameter | .getStatus | .logTake | .segmentEnable | .segmentDisable | .drain | .purgeLane | .brokerReset
  | .grant _ | .targetClaim _ | .wordPass _ _ _ | .cycleEnd _ _ | .claimLimitExpiry _ | .holdLimitExpiry _
  | .discardExpiry _ | .closeTime _ | .idleExpiry _ => true

end Sys2Proof
end

