-- ==== Sys2Proof/Tests/Slice0.lean ====
section
/-! SUPPORT. The model's own tests: the ill-formed command that the static check refuses, one or two steps of each
command with numbers from the spec, and for every statement that has hypotheses states and operands that meet them. -/

namespace Sys2Proof.Tests

open Sys2Proof Sys2Proof.Machine

/-! ### Small states -/

/-- The next state that a command answers. -/
def after (c : Instr) (s : State) : State :=
  match exec c s with
  | .next t => t
  | .fault _ => s
  | .refused _ => s

/-- A lane that is UP at epoch 1 with empty buffers. -/
def upLane : Lane := { state := .up, epoch := 1, rx := [], tx := [], txLine := [] }

/-- Window 1 of 1.7 with read and write modes to choose: 40000000h, 64 KiB, segment B at 00008000h, all lanes. -/
def windowB (r : ReadMode) (w : WriteMode) : WindowRecord where
  valid := true
  base := 0x40000000
  sizeCode := 16
  segment := .b
  targetBase := 0x8000
  readMode := r
  writeMode := w
  merge := w = .posted
  readLanes := 0x7FFF
  writeLanes := 0x7FFF

/-- The timebase at 100, the gate OPEN, lanes 0 to 3 UP at epoch 1, lane 0 manager. -/
def base : State :=
  { State.reset with
    lanes := Vector.ofFn fun i : LaneId => if i.val < 4 then upLane else Lane.reset
    gate := .opened
    manager := some 0
    timebase := 100 }

/-- `base` with window 1 LIVE. -/
def withWindow (r : ReadMode) (w : WriteMode) : State := { base with live := State.reset.live.set 1 (windowB r w) }

/-- A parcel in the receive buffer of a lane. -/
def deliver (n : LaneId) (p : Parcel) (s : State) : State := s.modifyLane n fun l => { l with rx := [p] }

/-- A MGMT parcel with tag 5. -/
def mgmt (code : Nat) (args : List Word) : Parcel :=
  { head := BitVec.ofNat 32 (0x45000000 + args.length * 0x10000 + code), rest := 0 :: args }

/-- A READ of 4 words at 40000040h with tag 5, as 2.6 has it. -/
def readParcel : Parcel := { head := 0x15040000, rest := [0x40000040] }

/-- A WRITE of 2 words at 40000040h with tag 6, all bytes of the first word and byte 0 of the second. -/
def writeParcel : Parcel := { head := 0x26020000, rest := [0x40000040, 0x1F, 0x11111111, 0x22222222] }

/-- The two words that `writeParcel` carries. -/
def writeWords2 : List WriteWord := [{ mask := 15, data := 0x11111111 }, { mask := 1, data := 0x22222222 }]

/-- A FENCE with tag 7. -/
def fenceParcel : Parcel := { head := 0x37000000, rest := [0] }

/-- The owner that lane n is in `base`. -/
def own (n : LaneId) : Owner := { lane := n, epoch := 1 }

/-- An entry for `readParcel` of lane 3 in a state. -/
def readEntry (x : EntryState) : DttEntry :=
  { DttEntry.cleared with
    state := x, owner := own 3, kind := .read, address := 0x40000040, words := 4, window := 1, segment := .b
    segAddr := 0x8040 }

/-- An entry for `writeParcel` of lane 3 in a state. -/
def writeEntry (x : EntryState) : DttEntry :=
  { DttEntry.cleared with
    state := x, owner := own 3, kind := .ackedWrite, address := 0x40000040, words := 2, writeWords := writeWords2
    window := 1, segment := .b, segAddr := 0x8040 }

/-- A queue entry of lane 3 with one word. -/
def queued (seq : Seq) (close : Option Time) : QueueEntry :=
  { owner := own 3, window := 1, segAddr := 0x8000, writeWords := [{ mask := 15, data := 9 }], seq := seq,
    closeTime := close, progress := 0, backoff := 0 }

/-- A queue of one entry, numbered 1. -/
def oneEntry (close : Option Time) : PostedQueue := { entries := [queued 1 close], counter := 1, retired := 0 }

/-- A HOLDING slot of lane 3 in window 1 at 40000040h. -/
def holdingSlot (held : List Word) : StreamSlot :=
  { state := .holding, owner := own 3, window := 1, segment := .b, nextAddr := 0x40000040, nextSegAddr := 0x8040,
    windowEnd := 0x40010000, held := held, lastUse := 90, idleExpiry := 600, refill := none }

/-- A refill of 16 words with its barrier met. -/
def refill16 (inCycle : Bool) : PendingRefill :=
  { start := 0x8040, words := 16, barrier := Barrier.none, progress := 0, backoff := 0, inCycle := inCycle }

/-- The slot FILLING with that refill. -/
def fillingSlot (inCycle : Bool) : StreamSlot := { holdingSlot [] with state := .filling, refill := some (refill16 inCycle) }

/-- A cycle of 4 words that reads entry 0, in a phase, with some words passed. -/
def readCycle (phase : CyclePhase) (passed : Nat) : Cycle :=
  { item := .dttEntry 0, kind := .read, segAddr := 0x8040, words := 4, writeWords := [], backoffAtGrant := 0,
    holdLimit := 200, phase := phase, passed := passed, readData := List.replicate passed 7, badWord := false }

/-- Segment B carries that cycle for entry 0. -/
def onBus (phase : CyclePhase) (passed : Nat) (s : State) : State :=
  { s with
    dtt := s.dtt.set 0 (readEntry .issued)
    engines := { s.engines with b := { s.engines.b with cycle := some (readCycle phase passed) } } }

/-- One log record. -/
def record0 : LogRecord :=
  { seq := 0, time := 50, body := { kind := .writesDropped, segment := some .b, cause := some .brokerReset, count := some 3 } }

/-- A log of k records. -/
def logOf (k : Nat) (outstanding : Bool) : ExceptionLog :=
  { records := (List.range k).map fun i => { record0 with seq := BitVec.ofNat 16 i }, counter := BitVec.ofNat 16 k,
    lost := 0, alertOutstanding := outstanding }

/-- The parameters at their defaults with ALERTS on. -/
def alertsOn : Parameters := { Parameters.reset with alerts := true }

/-- Segment B in a state. -/
def segmentB (x : SegmentState) (s : State) : State :=
  { s with engines := { s.engines with b := { s.engines.b with state := x } } }

/-! ### The static check -/

/-- A delivered parcel of one word is refused; one with both header words is not. -/
theorem test_wellFormed_refuses_one_word_parcel :
    (Instr.parcelDelivery 0 { head := 0x10040000, rest := [] }).wellFormed = false ∧
      (Instr.parcelDelivery 0 readParcel).wellFormed = true := by decide

/-! ### Codes -/

/-- The mode and segment codes read back, and a code of no name is none (R197). -/
theorem test_codes_of_a_record :
    (List.range 4).map ReadMode.ofCode = [some .none, some .deferred, some .stream, none] ∧
    (List.range 4).map WriteMode.ofCode = [some .none, some .posted, some .acked, none] ∧
    (List.range 4).map segmentOfCode = [some .a, some .b, none, none] := by decide

/-- Each form rule of R24, broken alone at its boundary. -/
theorem test_forms_malformed :
    ([ { head := 0x00000000, rest := [0] }, { head := 0x50000000, rest := [0] },
       { head := 0x40000000, rest := [0] }, { head := 0x40000011, rest := [0] },
       { head := 0x10000000, rest := [0] }, { head := 0x10110000, rest := [0] },
       { head := 0x40110001, rest := 0 :: List.replicate 17 0 }, { head := 0x10010000, rest := [2] },
       { head := 0x10020000, rest := [0x3C] }, { head := 0x20010000, rest := [0, 0xFFFFFFF0, 1] },
       { head := 0x10010000, rest := [0, 0] }, { head := 0x30000000, rest := [0, 0] },
       { head := 0x20010000, rest := [0, 15] }, { head := 0x40010001, rest := [0] } ] : List Parcel).all
      (fun p => requestOf p = .malformed) = true := by decide

/-- Well-formed parcels at the ends of the same rules. -/
theorem test_forms_accepted :
    requestOf { head := 0x10100000, rest := [0x40] } = .read 0x40 16 ∧
    requestOf { head := 0x10010000, rest := [0x3C] } = .read 0x3C 1 ∧
    requestOf writeParcel = .write 0x40000040 writeWords2 ∧
    requestOf fenceParcel = .fence ∧
    requestOf (mgmt 0x10 []) = .mgmt .brokerReset [] := by decide

/-! ### One step of each command -/

/-- The release of RESET closes the gate, ends the role and sets the last lane granted to 14 (R186). -/
theorem test_powerOnReset :
    (after .powerOnReset base).gate = .closed ∧ (after .powerOnReset base).manager = none ∧
      (after .powerOnReset base).lastGranted = 14 ∧ (after .powerOnReset base).timebase = 0 := by decide

/-- 4294967295 is followed by 0 (R178). -/
theorem test_timebaseAdvance_wraps :
    (after .timebaseAdvance { State.reset with timebase := 0xFFFFFFFF }).timebase = 0 := by decide +kernel

/-- A close time due now is taken before the timebase moves on (R179, row 2). -/
theorem test_timebaseAdvance_takes_due :
    (after .timebaseAdvance { base with queues := { base.queues with a := oneEntry (some 100) } }).queues.a =
      oneEntry none := by decide +kernel

/-- An arrival makes a DOWN lane UP under the next epoch (R189). -/
theorem test_arrival : (after (.arrival 7) base).lanes[7] = { upLane with epoch := 1 } ∧
    (after (.arrival 7) { base with lanes := base.lanes.set 7 { Lane.reset with epoch := 255 } }).lanes[7] =
      { upLane with epoch := 0 } := by decide

/-- A departure of the manager lane ends the role and keeps the epoch (R191). -/
theorem test_departure : (after (.departure 0) base).manager = none ∧
    (after (.departure 0) base).lanes[0] = { Lane.reset with epoch := 1 } := by decide

/-- A third parcel is not kept and the lane departs (R187). -/
theorem test_parcelDelivery :
    (after (.parcelDelivery 3 fenceParcel) (deliver 3 readParcel base)).lanes[3].rx = [readParcel, fenceParcel] ∧
      (after (.parcelDelivery 3 fenceParcel)
        { base with lanes := base.lanes.set 3 { upLane with rx := [readParcel, readParcel] } }).lanes[3].state =
        .down := by decide

/-- An ALERT with 3 records and 2 lost as it is sent (R196). -/
theorem test_parcelSend :
    (after (.parcelSend 0) { base with lanes := base.lanes.set 0 { upLane with tx := [.alert 3 2] } }).lanes[0] =
      { upLane with txLine := [0x90000003, 1, 2] } := by decide

/-- A response as it is sent: FAILED TIMEOUT with tag 4 (R196). -/
theorem test_response_words :
    (TxParcel.response { status := .failed .timeout, tag := 4, info := 0, data := [] }).toWords = [0x84330000, 0] ∧
      (TxParcel.response { status := .complete, tag := 15, info := 7, data := [1, 2] }).toWords =
        [0x8F000007, 2, 1, 2] := by decide

/-- A parcel of no kind is refused MALFORMED with its tag (R24). -/
theorem test_malformedParcel :
    (after .malformedParcel (deliver 3 { head := 0x59000000, rest := [0] } base)).lanes[3].tx =
      [.response { status := .refused .malformed, tag := 9, info := 0, data := [] }] := by decide

/-- The first READ of 2.6 creates entry 0 for segment address 8040h and is answered RETRY (R33, R44). -/
theorem test_read_creates :
    (after .read (deliver 3 readParcel (withWindow .deferred .acked))).dtt[0] = readEntry .queued ∧
      (after .read (deliver 3 readParcel (withWindow .deferred .acked))).lanes[3].tx =
        [.response { status := .retry, tag := 5, info := 0, data := [] }] := by decide

/-- Its repeat collects the four words and frees the entry (R29). -/
theorem test_read_collects :
    (after .read (deliver 3 readParcel { withWindow .deferred .acked with
        dtt := base.dtt.set 0 { readEntry .ready with readData := [1, 2, 3, 4] } })).lanes[3].tx =
      [.response { status := .complete, tag := 5, info := 0, data := [1, 2, 3, 4] }] := by decide

/-- A posted write is answered COMPLETE and stays open for MERGE-WINDOW (R33, R74). -/
theorem test_write_posted :
    (after .write (deliver 3 writeParcel (withWindow .none .posted))).queues.b =
      { entries := [{ owner := own 3, window := 1, segAddr := 0x8040, writeWords := writeWords2, seq := 1,
                      closeTime := some 108, progress := 0, backoff := 0 }]
        counter := 1
        retired := 0 } := by decide

/-- An acked write is answered RETRY and waits in the table (R34). -/
theorem test_write_acked :
    (after .write (deliver 3 writeParcel (withWindow .none .acked))).dtt[0] = writeEntry .queued := by decide

/-- A FENCE behind an own entry makes a record on it; one with none is answered with the lane's count (R94). -/
theorem test_fence :
    (after .fence (deliver 3 fenceParcel { base with queues := { base.queues with a := oneEntry (some 108) } })).fences[3] =
      some { a := { value := some 1, met := false }, b := { value := none, met := true } } ∧
    (after .fence (deliver 3 fenceParcel { base with failedWrites := base.failedWrites.set 3 2 })).lanes[3].tx =
      [.response { status := .complete, tag := 7, info := 2, data := [] }] := by decide

/-- CLAIM while lane 0 is manager names lane 0; with no manager it takes the role (R168). -/
theorem test_claim :
    (after .claim (deliver 3 (mgmt 1 []) { base with manager := some 2 })).lanes[3].tx =
      [.response { status := .refused .notManager, tag := 5, info := 2, data := [] }] ∧
    (after .claim (deliver 3 (mgmt 1 []) { base with manager := none })).manager = some 3 := by decide

/-- RELEASE ends the role (R169). -/
theorem test_release : (after .release (deliver 0 (mgmt 2 []) base)).manager = none := by decide

/-- OPEN and CLOSE (R172). -/
theorem test_gate : (after .openGate (deliver 0 (mgmt 3 []) { base with gate := .closed })).gate = .opened ∧
    (after .closeGate (deliver 0 (mgmt 4 []) base)).gate = .closed := by decide

/-- Window 1 of 1.7 staged from its words (R5, R197). -/
theorem test_stageWindow :
    (after .stageWindow (deliver 0 (mgmt 5 [1, 0x80021110, 0x40000000, 0x8000, 0x7FFF7FFF]) base)).staged[1] =
      windowB .deferred .acked := by decide

/-- The same words read back (R7). -/
theorem test_readWindow :
    (after .readWindow (deliver 0 (mgmt 6 [1, 1]) (withWindow .deferred .acked))).lanes[0].tx =
      [.response { status := .complete, tag := 5, info := 0, data := [0x80021110, 0x40000000, 0x8000, 0x7FFF7FFF] }] := by
  decide

/-- COMMIT copies the bank, answers the new generation and frees a QUEUED entry (R11, R12). -/
theorem test_commit :
    (after .commit (deliver 0 (mgmt 7 []) { base with
        staged := base.staged.set 1 (windowB .stream .none), dtt := base.dtt.set 0 (readEntry .queued) })).live[1] =
      windowB .stream .none ∧
    (after .commit (deliver 0 (mgmt 7 []) { base with dtt := base.dtt.set 0 (readEntry .queued) })).dtt[0].state =
      .free := by decide

/-- QUOTA set to 16; 17 is refused (R175). -/
theorem test_setParameter :
    (after .setParameter (deliver 0 (mgmt 8 [1, 16]) base)).params.quota = 16 ∧
    (after .setParameter (deliver 0 (mgmt 8 [1, 17]) base)).params.quota = 4 := by decide

/-- HIGH-WATER read (R176). -/
theorem test_getParameter :
    (after .getParameter (deliver 0 (mgmt 9 [3]) base)).lanes[0].tx =
      [.response { status := .complete, tag := 5, info := 0, data := [24] }] := by decide

/-- The status result of a lane that is not the manager (R180, R198). -/
theorem test_getStatus :
    (after .getStatus (deliver 3 (mgmt 10 []) base)).lanes[3].tx =
      [.response { status := .complete, tag := 5, info := 0, data := [0x100, 16, 0, 0, 15, 100] }] := by decide

/-- LOG TAKE answers the record's four words (R157, R198). -/
theorem test_logTake :
    (after .logTake (deliver 0 (mgmt 11 []) { base with log := logOf 1 true })).lanes[0].tx =
      [.response { status := .complete, tag := 5, info := 0, data := [0x00002088, 50, 0, 3] }] := by decide

/-- SEGMENT ENABLE clears the count of a FAULTED segment; SEGMENT DISABLE keeps it (R146, R147). -/
theorem test_segmentEnable_and_disable :
    (after .segmentEnable (deliver 0 (mgmt 12 [1]) { base with
        engines := { base.engines with b := { base.engines.b with state := .faulted, failures := 8 } } })).engines.b =
      Engine.reset ∧
    (after .segmentDisable (deliver 0 (mgmt 13 [0]) base)).engines.a = { Engine.reset with state := .disabled } := by
  decide

/-- DRAIN behind an entry makes a record; with empty queues it is answered COMPLETE (R100). -/
theorem test_drain :
    (after .drain (deliver 0 (mgmt 14 []) { base with queues := { base.queues with b := oneEntry none } })).drain =
      some { a := { value := none, met := true }, b := { value := some 1, met := false } } ∧
    (after .drain (deliver 0 (mgmt 14 []) base)).lanes[0].tx =
      [.response { status := .complete, tag := 5, info := 0, data := [] }] := by decide

/-- PURGE LANE advances the epoch and frees the lane's READY entry (R193). -/
theorem test_purgeLane :
    (after .purgeLane (deliver 0 (mgmt 15 [3]) { base with dtt := base.dtt.set 0 (readEntry .ready) })).lanes[3].epoch = 2 ∧
    (after .purgeLane (deliver 0 (mgmt 15 [3]) { base with dtt := base.dtt.set 0 (readEntry .ready) })).dtt[0].state =
      .free := by decide

/-- BROKER RESET closes the gate and logs the drop of one queue (R182). -/
theorem test_brokerReset :
    (after .brokerReset (deliver 0 (mgmt 16 []) { base with queues := { base.queues with b := oneEntry none } })).gate =
      .closed ∧
    (after .brokerReset (deliver 0 (mgmt 16 []) { base with queues := { base.queues with b := oneEntry none } })).log.records =
      [{ seq := 0, time := 100, body :=
        { kind := .writesDropped, segment := some .b, cause := some .brokerReset, count := some 1 } }] := by decide

/-- GRANT of the only candidate, entry 0 (R136, R137). -/
theorem test_grant :
    (after (.grant .b) { base with dtt := base.dtt.set 0 (readEntry .queued) }).engines.b =
      { Engine.reset with lastWF := .f, cycle := some (readCycle (.claim 100) 0) } := by decide

/-- A claim starts the data phase; a late one changes nothing (R128). -/
theorem test_targetClaim :
    (after (.targetClaim .b) (onBus (.claim 99) 0 base)).engines.b.cycle = some (readCycle (.data 100) 0) ∧
    (after (.targetClaim .b) (onBus (.claim 98) 0 base)).engines.b.cycle = some (readCycle (.claim 98) 0) := by decide

/-- A word with right parity passes; one with a wrong bit spoils the cycle (R129, R132). -/
theorem test_wordPass :
    (after (.wordPass .b 7 14) (onBus (.data 100) 0 base)).engines.b.cycle = some (readCycle (.data 100) 1) ∧
    (after (.wordPass .b 7 15) (onBus (.data 100) 0 base)).engines.b.cycle =
      some { readCycle (.data 100) 1 with badWord := true } := by decide

/-- DONE after the last word makes the entry READY with its words (R52, R56). -/
theorem test_cycleEnd_done :
    (after (.cycleEnd .b .done) (onBus (.data 100) 4 base)).dtt[0] =
      { readEntry .ready with readData := [7, 7, 7, 7], expiry := 4196 } := by decide

/-- Any signal but FAULT after word 2 of 4 is STOP (R130, R53). -/
theorem test_cycleEnd_stop :
    (after (.cycleEnd .b .backoff) (onBus (.data 100) 2 base)).dtt[0] =
      { readEntry .partly with readData := [7, 7], progress := 2 } := by decide

/-- The claim limit ends the cycle NO-TARGET and counts one failure (R128, R141). -/
theorem test_claimLimitExpiry :
    (after (.claimLimitExpiry .b) (onBus (.claim 99) 0 base)).engines.b = { Engine.reset with failures := 1 } := by
  decide

/-- The hold limit ends the cycle TIMEOUT (R129). -/
theorem test_holdLimitExpiry :
    (after (.holdLimitExpiry .b) { onBus (.data 100) 2 base with timebase := 301 }).dtt[0].outcome = .failed .timeout ∧
    (after (.holdLimitExpiry .b) { onBus (.data 100) 2 base with timebase := 300 }).dtt[0].state = .issued := by decide

/-- The discard of a READY entry leaves its record (R57). -/
theorem test_discardExpiry :
    (after (.discardExpiry 0) { base with dtt := base.dtt.set 0 { readEntry .ready with expiry := 100 } }).log.records =
      [{ seq := 0, time := 100, body :=
        { kind := .completionDiscarded, lane := some 3, segment := some .b, segAddr := some 0x8040, words := some 4,
          entryKind := some .read, cause := some .success } }] := by decide

/-- The close time of the tail (R78). -/
theorem test_closeTime :
    (after (.closeTime .a) { base with queues := { base.queues with a := oneEntry (some 100) } }).queues.a =
      oneEntry none := by decide

/-- An idle slot with its refill in a cycle becomes RETIRING, another EMPTY (R118, R120). -/
theorem test_idleExpiry :
    (after (.idleExpiry 0) { base with timebase := 600, slots := base.slots.set 0 (fillingSlot true) }).slots[0].state =
      .retiring ∧
    (after (.idleExpiry 0) { base with timebase := 600, slots := base.slots.set 0 (holdingSlot [1]) }).slots[0].state =
      .empty := by decide

/-- A segment fault at the threshold: TARGET-FAULT on a segment with threshold 1 (R143, R144). -/
theorem test_cycleEnd_faults_segment :
    (after (.cycleEnd .b .fault) { onBus (.data 100) 2 base with
        params := { Parameters.reset with faultThresholdB := 1 } }).engines.b =
      { Engine.reset with state := .faulted, failures := 1 } := by decide

/-- A parcel does not leave by another row (row 1). -/
theorem test_other_row_changes_nothing :
    after .fence (deliver 3 readParcel base) = deliver 3 readParcel base := by decide

/-- The table gives no bits: no word spells a command (row 15). -/
theorem test_no_word_spells_a_command :
    decodeTableWord 32 0 = none ∧ State.withFetchWord State.reset 32 0 = State.reset := by decide

/-- An empty queue leaves the broker as it is (row 8). -/
theorem test_idle : step base = .next base := rfl

/-! ### Witnesses: states and operands that meet the hypotheses of each statement -/

/-- Work everywhere: a READ of lane 3 on the bus of segment B after one of its four words, a QUEUED write behind entry 1
of queue B, a READY read of lane 1, a FILLING slot of lane 2 behind entry 2, a fence record and a drain record on entry
2, one log record with its ALERT outstanding. -/
def busy : State :=
  { withWindow .stream .acked with
    staged := State.reset.staged.set 0 (windowB .stream .posted)
    lanes := (Vector.ofFn fun i : LaneId => if i.val < 4 then upLane else Lane.reset).set 0
      { upLane with rx := [fenceParcel], tx := [.alert 1 0] }
    dtt := (((State.reset.dtt.set 0 { readEntry .issued with streamFlag := true }).set 1
      { writeEntry .queued with creation := 1, barrier := { value := some 1, met := false } }).set 2
      { readEntry .ready with owner := own 1, readData := [1, 2, 3, 4], expiry := 4000 })
    creationCounter := 3
    queues := { a := PostedQueue.reset, b := { entries := [queued 1 none, queued 2 (some 104)], counter := 2, retired := 0 } }
    fences := State.reset.fences.set 3 (some { a := Barrier.none, b := { value := some 2, met := false } })
    drain := some { a := Barrier.none, b := { value := some 2, met := false } }
    failedWrites := State.reset.failedWrites.set 3 255
    slots := State.reset.slots.set 0
      { fillingSlot false with owner := own 2, refill := some { refill16 false with barrier := { value := some 2, met := false } } }
    refillOrder := { a := [], b := [0] }
    engines := { a := Engine.reset, b := { Engine.reset with lastWF := .f, cycle := some (readCycle (.data 100) 1) } }
    log := logOf 1 true
    params := alertsOn
    pending := [.wordPass .b 7 14] }

/-- Each invariant holds in `busy`, and its step answers a next state. -/
theorem witness_invariants_lanes : LanesAndRoleOk busy ∧ LogOk busy := by decide

theorem witness_invariants_queues : QueuesOk busy ∧ NoDuplicateEntries busy := by decide

theorem witness_invariants_bus : ItemsOnBusOk busy ∧ FaultedQuiet busy .a ∧ FaultedQuiet busy .b := by
  refine ⟨?_, ?_, ?_⟩ <;> decide

theorem witness_invariants_barriers : BarriersOk busy ∧ CountsOk busy := by decide

theorem witness_invariants_timers : TimersOk busy ∧ OwnersOk busy := by decide

theorem witness_invariants_blocks : BlocksOk busy ∧ TransfersOk busy := by decide

theorem witness_invariants_step : ∃ t, step busy = .next t := ⟨_, rfl⟩

/-- A FAULTED segment that is quiet. -/
theorem witness_faulted_segment : FaultedQuiet (segmentB .faulted base) .b ∧
    ((segmentB .faulted base).engine .b).state = .faulted := by decide

/-- A GRANT is none of the commands that StateChangedOnlyByItsCommands names. -/
theorem witness_stateChangedOnlyByItsCommands :
    (∃ t, exec (.grant .a) busy = .next t) ∧ Instr.grant .a ∉ intakeCommands ∧
      (∀ n, Instr.grant .a ≠ .departure n) ∧ (∀ n, Instr.grant .a ≠ .arrival n) ∧
      (∀ n p, Instr.grant .a ≠ .parcelDelivery n p) :=
  ⟨⟨_, rfl⟩, by decide, nofun, nofun, nofun⟩

/-- Each event that cannot occur: no parcel to take, another row's parcel, lanes UP and DOWN, nothing to send, an engine
that carries a cycle, is not ENABLED or has no candidate, no cycle, nothing due. -/
theorem witness_impossibleEventsChangeNothing :
    nextTaking base = none ∧
    nextTaking (deliver 3 readParcel base) = some { lane := 3, parcel := readParcel } ∧
    takenBy (requestOf readParcel) ≠ .fence ∧
    base.lanes[3].state = .up ∧ base.lanes[4].state = .down ∧ base.lanes[3].tx = [] ∧
    (busy.engine .b).cycle ≠ none ∧ ((segmentB .disabled base).engine .b).state ≠ .enabled ∧
    arbiter .a base = none ∧ (base.engine .a).cycle = none ∧
    base.dtt[0].state ≠ .ready ∧ busy.dtt[2].state = .ready ∧ busy.dtt[2].expiry ≠ busy.timebase ∧
    (base.queues.get .a).tail = none ∧ (busy.queues.get .b).tail = some (queued 2 (some 104)) ∧
    base.slots[0].live = false ∧ busy.slots[0].live = true ∧ busy.slots[0].idleExpiry ≠ busy.timebase := by decide

/-- A late claim, a claim limit that has not run out, a hold past its limit and at it, and the last boundary. -/
theorem witness_impossibleEventsChangeNothing_phases :
    ((onBus (.claim 98) 0 base).engine .b).cycle = some (readCycle (.claim 98) 0) ∧ 1 < ((100 : Time) - 98).toNat ∧
    ((onBus (.claim 100) 0 base).engine .b).cycle = some (readCycle (.claim 100) 0) ∧ ((100 : Time) - 100).toNat < 1 ∧
    ((onBus (.data 100) 4 base).engine .b).cycle = some (readCycle (.data 100) 4) ∧
    (readCycle (.data 100) 4).words ≤ (readCycle (.data 100) 4).passed ∧
    (readCycle (.data 100) 2).holdLimit < ((301 : Time) - 100).toNat ∧
    ((300 : Time) - 100).toNat ≤ (readCycle (.data 100) 2).holdLimit := by decide

/-- A parcel to take, with another lane that is not eligible. -/
theorem witness_eachTakingPlacesOneResponse :
    nextTaking (deliver 3 readParcel base) = some { lane := 3, parcel := readParcel } ∧ (2 : LaneId) ≠ 3 := by decide

/-- A well-formed parcel of each kind. -/
theorem witness_requestFormAndFields :
    [readParcel, writeParcel, fenceParcel, mgmt 5 [1, 2, 3, 4, 5]].map (fun p => (p.rest.length, kindCode p)) =
      [(1, 1), (4, 2), (1, 3), (6, 4)] ∧
    [readParcel, writeParcel, fenceParcel, mgmt 5 [1, 2, 3, 4, 5]].all (fun p => requestOf p ≠ .malformed) = true := by
  decide

/-- The closed gate. -/
def closed : State := { withWindow .deferred .acked with gate := .closed }

theorem witness_formAndGateChecks :
    TakesRequest (deliver 3 { head := 0x59000000, rest := [0] } base) 3 { head := 0x59000000, rest := [0] } .malformed ∧
    (deliver 3 readParcel closed).gate = .closed ∧ (deliver 3 writeParcel closed).gate = .closed ∧
    (deliver 3 fenceParcel closed).gate = .closed ∧
    TakesRequest (deliver 3 readParcel closed) 3 readParcel (.read 0x40000040 4) ∧
    TakesRequest (deliver 3 writeParcel closed) 3 writeParcel (.write 0x40000040 writeWords2) ∧
    TakesRequest (deliver 3 fenceParcel closed) 3 fenceParcel .fence := by decide

/-- A record that a bank may hold, at the first and the last address of its range. -/
theorem witness_lookupAndTranslation :
    (windowB .deferred .acked).ok = true ∧ (windowB .deferred .acked).contains 0x40000000 = true ∧
      (windowB .deferred .acked).contains 0x4000FFFF = true ∧ (windowB .deferred .acked).contains 0x40010000 = false ∧
      (windowB .deferred .posted).ok = true ∧ WindowRecord.cleared.ok = true := by decide

/-- `withWindow` with a slot of lane 3 at the address of `readParcel`. -/
def withSlot (x : StreamSlot) : State := { withWindow .stream .acked with slots := base.slots.set 0 x }

/-- A READ at the slot's next address with exactly as many words held, and with one fewer. -/
theorem witness_readServedFromOwnSlot :
    [[(1 : Word), 2, 3, 4], [1, 2, 3]].all (fun held =>
      let s := deliver 3 readParcel (withSlot (holdingSlot held))
      TakesRequest s 3 readParcel (.read 0x40000040 4) ∧ s.gate = .opened ∧ ownSlot (s.currentOwner 3) s = some 0 ∧
        s.slots[0].nextAddr = 0x40000040 ∧ s.slots[0].held = held) = true ∧
    4 ≤ [(1 : Word), 2, 3, 4].length ∧ [(1 : Word), 2, 3].length < 4 := by decide

/-- A HOLDING slot whose last two words end at the window end. -/
def lastSlot : StreamSlot := { holdingSlot [1, 2] with nextAddr := 0x4000FFF8, nextSegAddr := 0x17FF8 }

/-- Slots at the window end, with words left, FILLING, with 15 and with 16 words held. -/
theorem witness_servingAndRefillRequest :
    lastSlot.nextAddr.toNat + 4 * 2 = lastSlot.windowEnd ∧ lastSlot.held.length ≤ 2 ∧
    lastSlot.windowEnd ≤ lastSlot.nextAddr.toNat + 4 * lastSlot.held.length ∧
    (holdingSlot (List.replicate 15 1)).nextAddr.toNat + 4 * 15 < (holdingSlot []).windowEnd ∧
    16 ≤ (holdingSlot (List.replicate 16 1)).held.length ∧ busy.slots[0].state = .filling := by decide

theorem witness_servingAndRefillRequest_items :
    [withSlot lastSlot, withSlot (holdingSlot (List.replicate 15 1)), withSlot (holdingSlot (List.replicate 16 1)),
      busy].all (fun s => decide (ItemsOnBusOk s)) = true := by decide +kernel

/-- `withWindow` with an entry of lane 3 for the parcels. -/
def withEntry (e : DttEntry) : State := { withWindow .stream .acked with dtt := base.dtt.set 0 e }

/-- A READY read with its words. -/
def readyRead (o : EntryOutcome) (stream : Bool) : DttEntry :=
  { readEntry .ready with outcome := o, readData := if o = .success then [1, 2, 3, 4] else [], streamFlag := stream }

/-- Repeats of a READ: of an entry that waits in each of three states, and of a READY one with each outcome. -/
theorem witness_repeatsWaitOrCollect_read :
    [readEntry .queued, readEntry .issued, readEntry .partly, readyRead .success true, readyRead .success false,
        readyRead (.failed .parity) true].all (fun e =>
      let s := deliver 3 readParcel (withEntry e)
      NoDuplicateEntries s ∧ s.gate = .opened ∧ TakesRequest s 3 readParcel (.read 0x40000040 4) ∧
        NotServed 3 0x40000040 s ∧ s.dtt[0] = e ∧ e.sameRequest (s.currentOwner 3) .read 0x40000040 4 [] = true) =
      true ∧
    (readEntry .queued).waits ∧ (readEntry .issued).waits ∧ (readEntry .partly).waits := by decide

theorem witness_repeatsWaitOrCollect_data :
    decide (TransfersOk (deliver 3 readParcel (withEntry (readyRead .success true)))) = true := by decide

/-- Repeats of a WRITE. -/
theorem witness_repeatsWaitOrCollect_write :
    [writeEntry .queued, writeEntry .issued, writeEntry .partly, writeEntry .ready,
        { writeEntry .ready with outcome := .failed .timeout }].all (fun e =>
      let s := deliver 3 writeParcel (withEntry e)
      NoDuplicateEntries s ∧ s.gate = .opened ∧ TakesRequest s 3 writeParcel (.write 0x40000040 writeWords2) ∧
        s.dtt[0] = e ∧ e.sameRequest (s.currentOwner 3) .ackedWrite 0x40000040 2 writeWords2 = true) = true := by decide

/-- Four slots of lanes 0 to 2 and 3, all HOLDING, the first used first. -/
def fullSlots (mine : StreamSlot) : State :=
  { withWindow .stream .acked with
    slots := (((base.slots.set 0 { holdingSlot [1] with owner := own 0, lastUse := 10 }).set 1
      { holdingSlot [1] with owner := own 1 }).set 2 { holdingSlot [1] with owner := own 2 }).set 3 mine }

/-- No slot can be taken: one is the lane's own, in a cycle, the others RETIRING. -/
def noSlot : State :=
  { withWindow .stream .acked with
    slots := (Vector.replicate 4 { fillingSlot true with state := .retiring, owner := own 0 }).set 3 (fillingSlot true) }

/-- Each way of an allocation by lane 3 under window 1. -/
theorem witness_streamSlotAllocation :
    (0x4000FFF0 : Word).toNat + 4 * 4 = (windowB .stream .acked).base.toNat + 2 ^ (windowB .stream .acked).sizeCode.toNat ∧
    ((segmentB .faulted base).engine .b).state = .faulted ∧
    ownSlot (own 3) (fullSlots (holdingSlot [])) = some 3 ∧ (holdingSlot []).inCycle = false ∧
    ownSlot (own 3) (withWindow .stream .acked) = none ∧ chooseSlot (own 3) (withWindow .stream .acked) = some 0 ∧
    ownSlot (own 3) (fullSlots (fillingSlot true)) = some 3 ∧ (fillingSlot true).inCycle = true ∧
    chooseSlot (own 3) (dropSlot 3 (fullSlots (fillingSlot true))) = some 0 ∧
    ownSlot (own 3) noSlot = some 3 ∧ chooseSlot (own 3) (dropSlot 3 noSlot) = none := by decide

/-- `withWindow` with record 1 replaced. -/
def withRecord (w : WindowRecord) : State := { base with live := State.reset.live.set 1 w }

/-- Each check of a READ and of a WRITE that answers it. -/
theorem witness_checksRefuseInOrder :
    lookup base.live 0x40000040 = none ∧
    lookup (withWindow .deferred .acked).live 0x40000040 = some 1 ∧
    [base, withRecord { windowB .deferred .acked with readLanes := 0x7FF7, writeLanes := 0x7FF7 },
      withWindow .none .none, segmentB .faulted (withWindow .deferred .acked)].all (fun u =>
        let s := deliver 3 readParcel u
        let t := deliver 3 writeParcel u
        (TakesRequest s 3 readParcel (.read 0x40000040 4) ∧ NotServed 3 0x40000040 s ∧ s.gate = .opened ∧
          matchEntry (s.currentOwner 3) .read 0x40000040 4 [] s = none) ∧
        (TakesRequest t 3 writeParcel (.write 0x40000040 writeWords2) ∧ t.gate = .opened ∧
          matchEntry (t.currentOwner 3) .ackedWrite 0x40000040 2 writeWords2 t = none)) = true ∧
    (0x7FF7 : BitVec 15).getLsbD 3 = false ∧ (0x7FFF : BitVec 15).getLsbD 3 = true ∧
    ((segmentB .faulted base).engine (windowB .deferred .acked).segment).state = .faulted := by decide

/-- No FREE entry. -/
def fullTable : State := { withWindow .deferred .acked with dtt := Vector.replicate 16 { readEntry .abandoned with owner := own 0 } }

/-- Four entries of lane 3: its quota. -/
def atQuota : State :=
  { withWindow .deferred .acked with
    dtt := Vector.ofFn fun i : EntryIndex => if i.val < 4 then { readEntry .ready with address := 0 } else DttEntry.cleared }

/-- An admitted READ and an admitted acked WRITE: a FREE entry below QUOTA, no FREE entry, QUOTA reached. -/
theorem witness_deferredRequestCreatesEntry :
    [withWindow .deferred .acked, fullTable, atQuota].all (fun u =>
      let s := deliver 3 readParcel u
      let t := deliver 3 writeParcel u
      (TakesRequest s 3 readParcel (.read 0x40000040 4) ∧ NotServed 3 0x40000040 s ∧ s.gate = .opened ∧
        matchEntry (s.currentOwner 3) .read 0x40000040 4 [] s = none ∧ Admitted s 3 .read 0x40000040 1) ∧
      (TakesRequest t 3 writeParcel (.write 0x40000040 writeWords2) ∧ t.gate = .opened ∧
        matchEntry (t.currentOwner 3) .ackedWrite 0x40000040 2 writeWords2 t = none ∧
        Admitted t 3 .write 0x40000040 1 ∧ t.live[1].writeMode = .acked)) = true ∧
    (withWindow .deferred .acked).dtt[0].state = .free ∧ (∀ j : EntryIndex, ¬j < 0) ∧
    quotaCount (own 3) (withWindow .deferred .acked) < 4 ∧ (∀ i : EntryIndex, fullTable.dtt[i].state ≠ .free) ∧
    atQuota.params.quota ≤ quotaCount (own 3) atQuota := by decide

/-- A POSTED window with a queue B. -/
def postedOn (q : PostedQueue) : State := { withWindow .none .posted with queues := { base.queues with b := q } }

/-- An open tail of 14 words from the start of a block. -/
def openTail : QueueEntry :=
  { queued 1 (some 104) with writeWords := List.replicate 14 { mask := 15, data := 9 } }

/-- A write that merges and one that does not, with 31 and with 32 entries queued. -/
theorem witness_postedWriteMergesOrQueues :
    [PostedQueue.reset, oneEntry (some 104),
        { entries := List.replicate 31 (queued 1 none), counter := 31, retired := 0 },
        { entries := List.replicate 32 (queued 1 none), counter := 32, retired := 0 }].all (fun q =>
      let s := deliver 3 writeParcel (postedOn q)
      TakesRequest s 3 writeParcel (.write 0x40000040 writeWords2) ∧ s.gate = .opened ∧
        matchEntry (s.currentOwner 3) .ackedWrite 0x40000040 2 writeWords2 s = none ∧
        Admitted s 3 .write 0x40000040 1 ∧ s.live[1].writeMode = .posted ∧
        (q.tail.all fun e => ¬MayMerge s 3 1 (s.live[1].translate 0x40000040) writeWords2 e) = true) = true := by decide

/-- A WRITE of the last two words of a block. -/
def lastWords : Parcel := { head := 0x26020000, rest := [0x40000038, 0x1F, 0x11111111, 0x22222222] }

theorem witness_postedWriteMergesOrQueues_merge :
    let s := deliver 3 lastWords (postedOn { entries := [openTail], counter := 1, retired := 0 })
    TakesRequest s 3 lastWords (.write 0x40000038 writeWords2) ∧ s.gate = .opened ∧
      matchEntry (s.currentOwner 3) .ackedWrite 0x40000038 2 writeWords2 s = none ∧
      Admitted s 3 .write 0x40000038 1 ∧ s.live[1].writeMode = .posted ∧
      MayMerge s 3 1 (s.live[1].translate 0x40000038) writeWords2 openTail ∧
      (s.queues.get s.live[1].segment).tail = some openTail := by decide

/-- The FENCE cases. -/
theorem witness_fenceAnswers :
    [base, { base with queues := { base.queues with b := oneEntry none } },
      { base with fences := base.fences.set 3 (some { a := Barrier.none, b := Barrier.none }) },
      { base with fences := base.fences.set 3 (some { a := Barrier.none, b := { value := some 1, met := false } }) },
      { base with fences := base.fences.set 3 (some { a := { value := some 1, met := false }, b := Barrier.none }) }].all
        (fun u =>
          let s := deliver 3 fenceParcel u
          TakesRequest s 3 fenceParcel .fence ∧ s.gate = .opened) = true := by decide

/-- The DRAIN cases. -/
theorem witness_drainAnswers :
    [base, { base with queues := { base.queues with a := oneEntry none } },
      { base with queues := { base.queues with b := oneEntry none } },
      { base with drain := some { a := Barrier.none, b := Barrier.none } },
      { base with drain := some { a := Barrier.none, b := { value := some 1, met := false } } },
      { base with drain := some { a := { value := some 1, met := false }, b := Barrier.none } }].all
        (fun u =>
          let s := deliver 0 (mgmt 14 []) u
          TakesMgmt s 0 (mgmt 14 []) .drain [] ∧ s.manager = some 0) = true := by decide

/-- Owners present and gone, an empty queue and one with a tail. -/
theorem witness_leavingClosureAndFailedCount :
    base.present (own 3) = true ∧ base.present { lane := 3, epoch := 2 } = false ∧ base.present (own 4) = false ∧
      PostedQueue.reset.entries = [] ∧ (oneEntry none).tail = some (queued 1 none) := by decide

/-- Operations from a lane that is not the manager, and with a wrong number of arguments from one that passes. -/
theorem witness_roleAndArgumentCountChecks :
    TakesMgmt (deliver 3 (mgmt 16 []) base) 3 (mgmt 16 []) .brokerReset [] ∧ base.manager ≠ some 3 ∧
    TakesMgmt (deliver 3 (mgmt 10 [1]) base) 3 (mgmt 10 [1]) .getStatus [1] ∧ [(1 : Word)].length ≠ MgmtOp.getStatus.argCount ∧
    TakesMgmt (deliver 0 (mgmt 5 [1]) base) 0 (mgmt 5 [1]) .stageWindow [1] ∧ base.manager = some 0 ∧
    TakesMgmt (deliver 3 (mgmt 1 [1]) { base with manager := none }) 3 (mgmt 1 [1]) .claim [1] := by decide

/-- Each operation with one argument word too many, from the manager lane and from another. -/
theorem witness_refusedFirst :
    (List.range 16).all (fun k =>
      (MgmtOp.ofCode (k + 1)).any fun op =>
        let args : List Word := List.replicate (op.argCount + 1) 7
        args.length ≠ op.argCount ∧ args ≠ [] ∧
          TakesMgmt (deliver 0 (mgmt (k + 1) args) base) 0 (mgmt (k + 1) args) op args ∧
          TakesMgmt (deliver 3 (mgmt (k + 1) args) base) 3 (mgmt (k + 1) args) op args) = true ∧
    base.manager = some 0 := by decide

/-- CLAIM and RELEASE with and without arguments. -/
theorem witness_claimTable_and_releaseEndsRole :
    [base, { base with manager := none }, { base with manager := some 3 }].all (fun s =>
      TakesMgmt (deliver 3 (mgmt 1 []) s) 3 (mgmt 1 []) .claim [] ∧
      TakesMgmt (deliver 3 (mgmt 1 [7]) s) 3 (mgmt 1 [7]) .claim [7] ∧
      TakesMgmt (deliver 3 (mgmt 2 []) s) 3 (mgmt 2 []) .release [] ∧
      TakesMgmt (deliver 3 (mgmt 2 [7]) s) 3 (mgmt 2 [7]) .release [7]) = true := by decide

theorem witness_openAndCloseSetTheGate :
    TakesMgmt (deliver 0 (mgmt 3 []) base) 0 (mgmt 3 []) .openGate [] ∧
      TakesMgmt (deliver 0 (mgmt 4 []) base) 0 (mgmt 4 []) .closeGate [] ∧ base.manager = some 0 := by decide

/-- The words of a record that passes every check, with the greatest size and the least. -/
theorem witness_stageAndReadWindow :
    [([23, 0x8011111C, 0x40000000, 0, 0x7FFF7FFF] : List Word), [0, 0x8000000C, 0xFFFFF000, 0x0FFFF000, 0],
        [23, 0, 0, 0, 0], [24, 0, 0, 0, 0], [0, 0x8000000B, 0, 0, 0]].all (fun ws =>
      TakesMgmt (deliver 0 (mgmt 5 ws) base) 0 (mgmt 5 ws) .stageWindow ws) = true ∧
    [([23, 0] : List Word), [23, 1], [24, 0], [0, 2]].all (fun ws =>
      TakesMgmt (deliver 0 (mgmt 6 ws) base) 0 (mgmt 6 ws) .readWindow ws) = true := by decide

theorem witness_stageAndReadWindow_words :
    RecordWordsOk 0x8011111C 0x40000000 0 0x7FFF7FFF ∧ RecordWordsOk 0x8000000C 0xFFFFF000 0x0FFFF000 0 ∧
    ¬RecordWordsOk 0x8000000B 0 0 0 := by decide

/-- One check of R6 broken at a time. -/
theorem witness_stageAndReadWindow_checks :
    ¬RecordWordsOk 0x8000000C 0x800 0 0 ∧ ¬RecordWordsOk 0x8000000C 0 0x800 0 ∧
    ¬RecordWordsOk 0x8000000D 0 0x0FFFF000 0 ∧ ¬RecordWordsOk 0x8010000C 0 0 0 ∧ ¬RecordWordsOk 0x8000000C 0 0 0x8000 ∧
    ¬RecordWordsOk 0x8000300C 0 0 0 ∧ ¬RecordWordsOk 0x8003000C 0 0 0 ∧ ¬RecordWordsOk 0x8000020C 0 0 0 := by
  refine ⟨?_, ?_, ?_, ?_, ?_, ?_, ?_, ?_⟩ <;> decide

theorem witness_commitEffects : TakesMgmt (deliver 0 (mgmt 7 []) base) 0 (mgmt 7 []) .commit [] ∧ base.manager = some 0 := by
  decide

/-- Parameter 9 turned on with and without records and turned off, the ends of a range, and a number past the last. -/
theorem witness_parametersReadAndSet :
    [([9, 1] : List Word), [9, 0], [0, 64], [0, 65535], [0, 63], [10, 0], [9, 2]].all (fun ws =>
      TakesMgmt (deliver 0 (mgmt 8 ws) base) 0 (mgmt 8 ws) .setParameter ws) = true ∧
    ParameterOk 9 1 ∧ ParameterOk 0 64 ∧ ParameterOk 0 65535 ∧ ¬ParameterOk 0 63 ∧ ¬ParameterOk 10 0 ∧ ¬ParameterOk 9 2 ∧
    base.params.alerts = false ∧ base.log.records = [] ∧ busy.log.records ≠ [] ∧ busy.params.alerts = true ∧
    TakesMgmt (deliver 0 (mgmt 9 [9]) base) 0 (mgmt 9 [9]) .getParameter [9] ∧
    TakesMgmt (deliver 0 (mgmt 9 [10]) base) 0 (mgmt 9 [10]) .getParameter [10] ∧
    base.params.values[9]? = some 0 := by decide

theorem witness_getStatusResult :
    TakesMgmt (deliver 3 (mgmt 10 []) base) 3 (mgmt 10 []) .getStatus [] ∧ QueuesOk busy ∧ LogOk busy ∧ CountsOk busy ∧
      TakesMgmt (deliver 0 (mgmt 10 []) busy) 0 (mgmt 10 []) .getStatus [] := by decide

/-- A log of 4 records and one of 5. -/
theorem witness_logTakeRemovesFour :
    [logOf 4 true, logOf 5 true].all (fun l =>
      TakesMgmt (deliver 0 (mgmt 11 []) { base with log := l }) 0 (mgmt 11 []) .logTake []) = true ∧
    (logOf 4 true).records.length ≤ 4 ∧ 4 < (logOf 5 true).records.length := by decide

theorem witness_segmentEnableAndDisable :
    [(0 : Word), 1, 2].all (fun w =>
      TakesMgmt (deliver 0 (mgmt 12 [w]) base) 0 (mgmt 12 [w]) .segmentEnable [w] ∧
      TakesMgmt (deliver 0 (mgmt 13 [w]) base) 0 (mgmt 13 [w]) .segmentDisable [w]) = true ∧
    TakesMgmt (deliver 0 (mgmt 12 [1]) (segmentB .faulted base)) 0 (mgmt 12 [1]) .segmentEnable [1] ∧
    ((segmentB .faulted base).engine .b).state ≠ .enabled ∧ (base.engine .b).state = .enabled := by decide

/-- Lane 14, the manager's own lane and the first number past the lanes. -/
theorem witness_purgeLaneEffects :
    [(14 : Word), 0, 15].all (fun w =>
      TakesMgmt (deliver 0 (mgmt 15 [w]) base) 0 (mgmt 15 [w]) .purgeLane [w]) = true ∧ base.manager = some 0 ∧
      busy.slots[0].owner.lane = 2 ∧ busy.dtt[0].owner.lane = 3 := by decide

theorem witness_brokerResetEffects :
    TakesMgmt (deliver 0 (mgmt 16 []) busy) 0 (mgmt 16 []) .brokerReset [] ∧ busy.manager = some 0 ∧ CountsOk busy ∧
      busy.dtt[0].state = .issued ∧ busy.dtt[1].state ≠ .issued ∧ busy.dtt[1].state ≠ .abandoned ∧
      busy.slots[0].state = .filling ∧ busy.slots[0].inCycle = false ∧ (fillingSlot true).inCycle = true := by decide

/-- Segment B with a head and an entry that may be granted, and the occupancy below or at HIGH-WATER. -/
def work (entries : Nat) (last : WorF) : State :=
  { withEntry (readEntry .queued) with
    queues := { base.queues with b := { entries := List.replicate entries (queued 1 none), counter := 1, retired := 0 } }
    engines := { base.engines with b := { Engine.reset with lastWF := last } } }

/-- A refill that may be granted on segment B. -/
def refillWork : State := { withSlot (fillingSlot false) with refillOrder := { a := [], b := [0] } }

theorem witness_workArbiterTable :
    candidateW .b (work 23 .w) = some (queued 1 none) ∧ candidateF .b (work 23 .w) = some 0 ∧
    ((work 23 .w).engine .b).cycle = none ∧ ((work 23 .f).engine .b).lastWF = .f ∧
    (work 23 .w).params.highWater = 24 ∧ candidateW .b (work 24 .w) = some (queued 1 none) ∧
    candidateW .b (work 0 .w) = none ∧ candidateF .b (work 0 .w) = some 0 ∧
    candidateF .b { work 1 .w with dtt := base.dtt } = none ∧
    candidateW .b refillWork = none ∧ candidateF .b refillWork = none ∧ candidateR .b refillWork = some 0 := by decide

theorem witness_grantStartsTheCycle :
    arbiter .b (work 1 .f) = some (.queueEntry 1) ∧ ((work 1 .f).queues.get .b).entries.head? = some (queued 1 none) ∧
    ((work 1 .f).engine .b).state = .enabled ∧ ((work 1 .f).engine .b).cycle = none ∧
    arbiter .b (work 1 .w) = some (.dttEntry 0) ∧ arbiter .b refillWork = some (.streamSlot 0) ∧
    refillWork.slots[0].refill = some (refill16 false) ∧ ItemsOnBusOk refillWork ∧
    (refillWork.engine .b).state = .enabled ∧ (refillWork.engine .b).cycle = none := by decide

/-- A cycle that writes. -/
def writeCycle (passed : Nat) : Cycle := { readCycle (.data 100) 0 with kind := .write, passed := passed, readData := [] }

/-- A claim at the claim limit; a word at the hold limit, in both kinds, and at the last boundary. -/
theorem witness_claimWordsAndParity :
    ((onBus (.claim 99) 0 base).engine .b).cycle = some (readCycle (.claim 99) 0) ∧
    (base.timebase - (99 : Time)).toNat ≤ 1 ∧
    ((onBus (.data 100) 3 { base with timebase := 300 }).engine .b).cycle = some (readCycle (.data 100) 3) ∧
    ((300 : Time) - 100).toNat ≤ (readCycle (.data 100) 3).holdLimit ∧ (readCycle (.data 100) 3).kind = .read ∧
    (readCycle (.data 100) 3).passed < 4 ∧ (readCycle (.data 100) 4).words ≤ (readCycle (.data 100) 4).passed ∧
    (writeCycle 3).kind = .write ∧ (writeCycle 3).passed < (writeCycle 3).words ∧
    parityError 7 14 = false := by decide

/-- Boundaries 0, 2 and 4 of 4; cycles with and without a bad word. -/
theorem witness_endingsAndOutcomes :
    (0 ≤ 4 ∧ 1 ≤ 4 ∧ 4 ≤ 4) ∧ TargetEnding.stop ≠ .fault ∧ (1 ≤ 2 ∧ 2 < 4) ∧
      ((readCycle (.data 100) 2).badWord = false) ∧
      ({ readCycle (.data 100) 2 with badWord := true } : Cycle).badWord = true := by decide

/-- Cycles that end in each of the three ways, and both results of the fault test. -/
theorem witness_cycleEndsInOneEvent :
    ((onBus (.data 100) 2 base).engine .b).cycle = some (readCycle (.data 100) 2) ∧
    ((300 : Time) - 100).toNat ≤ 200 ∧ (readCycle (.data 100) 2).holdLimit < ((301 : Time) - 100).toNat ∧
    1 ≤ ((100 : Time) - 99).toNat ∧
    faultCause .enabled none 0 8 = none ∧ faultCause .enabled (some .timeout) 8 8 = some .timeout ∧
    faultCause .enabled (some .timeout) 7 8 = none := by decide

/-- The sixteenth and the fifteenth BACKOFF, ISSUED and ABANDONED, with and without a word done. -/
theorem witness_entryCycleOutcomes :
    ({ readEntry .issued with backoff := 15 } : DttEntry).backoff + 1 = 16 ∧
    ({ readEntry .issued with backoff := 14 } : DttEntry).backoff + 1 < 16 ∧
    (writeEntry .abandoned).state = .abandoned ∧ 1 ≤ (writeEntry .abandoned).progress + 1 ∧
    (writeEntry .abandoned).progress + 0 = 0 ∧ (readEntry .abandoned).kind = .read := by decide

theorem witness_queueHeadOutcomes :
    (oneEntry none).entries = queued 1 none :: [] ∧ (queued 1 none).seq = 1 ∧ (queued 1 none).backoff + 1 < 16 ∧
      16 ≤ ({ queued 1 none with backoff := 15 } : QueueEntry).backoff + 1 ∧ (queued 1 none).seq ≠ 2 := by decide

theorem witness_refillOutcomes :
    (withSlot (fillingSlot true)).slots[0].refill = some (refill16 true) ∧ (fillingSlot true).state = .filling ∧
      (refill16 true).backoff + 1 < 16 ∧ 16 ≤ ({ refill16 true with backoff := 15 } : PendingRefill).backoff + 1 ∧
      ({ fillingSlot true with state := .retiring } : StreamSlot).refill = some (refill16 true) := by decide

theorem witness_failureCountAndFaultTest :
    (readCycle (.claim 99) 0).backoffAtGrant ≠ 15 ∧
      ({ readCycle (.claim 99) 0 with backoffAtGrant := 15 } : Cycle).backoffAtGrant = 15 ∧
      CycleOutcome.parity.failure = some .parity ∧ faultCause .disabled (some .parity) 1 1 = some .parity := by decide

theorem witness_segmentFaultEffects :
    CountsOk busy ∧ busy.dtt[1].segment = .b ∧ busy.dtt[1].state = .queued ∧ busy.dtt[0].state ≠ .queued ∧
      busy.dtt[0].state ≠ .partly ∧ busy.dtt[3].segment ≠ .b ∧ busy.dtt[1].barrier.value = some 1 ∧
      ((busy.queues.get .b).entries.any fun e => e.seq = 1) = true ∧ busy.slots[0].segment = .b ∧
      busy.slots[0].state = .filling ∧ busy.slots[0].inCycle = false ∧ busy.slots[1].segment ≠ .b := by decide

/-- Records with a barrier that a queued entry carries and with one that none does, slots in each state on the segment,
and the unmet barrier of a pending refill. -/
theorem witness_segmentFaultEffects_holders :
    busy.fences[3] = some { a := Barrier.none, b := { value := some 2, met := false } } ∧
    busy.drain = some { a := Barrier.none, b := { value := some 2, met := false } } ∧
    (∃ e ∈ (busy.queues.get .b).entries, (some 2 : Option Seq) = some e.seq) ∧
    (∀ e ∈ (busy.queues.get .b).entries, Barrier.none.value ≠ some e.seq) ∧
    (∀ e ∈ (busy.queues.get .b).entries, busy.dtt[0].barrier.value ≠ some e.seq) ∧
    [holdingSlot [1], fillingSlot false, fillingSlot true, { fillingSlot true with state := .retiring }].all (fun x =>
      (withSlot x).slots[0].segment = .b ∧ CountsOk (withSlot x)) = true ∧
    (holdingSlot [1]).state = .holding ∧ (fillingSlot true).state = .filling ∧ (fillingSlot true).inCycle = true := by
  decide

/-- A fault meets the barriers that name a discarded entry and keeps the records and every other barrier (R91, R144). -/
theorem test_fault_meets_barriers :
    (faultSegment .b .timeout busy).1.fences[3] = some { a := Barrier.none, b := { value := some 2, met := true } } ∧
    (faultSegment .b .timeout busy).1.drain = some { a := Barrier.none, b := { value := some 2, met := true } } ∧
    (faultSegment .a .timeout busy).1.drain = busy.drain := by decide

/-- Every command of the list that TIMEBASE_ADVANCE takes, and parameters in range. -/
theorem witness_expiriesAndTimebase_due :
    dueCommands.length = 26 ∧ busy.params.inRange ∧ ¬NothingDue (withEntry { readEntry .ready with expiry := 100 }) := by
  decide

/-- Each expiry due, and a state in which nothing is due. -/
theorem witness_expiriesAndTimebase :
    (withEntry { readEntry .ready with expiry := 100 }).dtt[0].state = .ready ∧ base.timebase = 100 ∧
    (oneEntry (some 100)).tail = some (queued 1 (some 100)) ∧
    (withSlot { holdingSlot [1] with idleExpiry := 100 }).slots[0].live = true ∧
    (withSlot { fillingSlot true with idleExpiry := 100 }).slots[0].live = true ∧ NothingDue busy := by decide

/-- A log with room for one more and a full one; a manager lane with no ALERT and with one between responses. -/
theorem witness_recordsAndAlerts :
    (logOf 63 false).records.length < 64 ∧ 64 ≤ (logOf 64 false).records.length ∧
    base.manager = some 0 ∧ alertsOn.alerts = true ∧ base.log.alertOutstanding = false ∧
    (∀ x ∈ base.lanes[0].tx, x.isAlert = false) ∧ busy.lanes[0].tx = [] ++ .alert 1 0 :: [] ∧
    base.params.alerts = false ∧ busy.log.alertOutstanding = true ∧ State.reset.manager = none := by decide

/-- A response of 16 words, an ALERT of a full log, a record of 16 words. -/
theorem witness_outgoingWordFormats :
    (List.replicate 16 (0 : Word)).length ≤ 16 ∧ 64 ≤ 64 ∧ 65535 ≤ 65535 ∧ (∀ k ∈ record0.body.words, k ≤ 16) ∧
      (∀ k ∈ record0.body.count, k ≤ 255) := by decide

theorem witness_arrivalDeliverySend :
    base.lanes[4].state = .down ∧ (deliver 3 readParcel base).lanes[3].state = .up ∧
      (deliver 3 readParcel base).lanes[3].rx.length < 2 ∧ busy.lanes[0].tx = .alert 1 0 :: [] := by decide

theorem witness_departureAndCreditBreach :
    busy.lanes[0].state = .up ∧ busy.manager = some 0 ∧ busy.manager ≠ some 3 ∧ busy.lanes[3].state = .up ∧
      2 ≤ ({ upLane with rx := [readParcel, readParcel] } : Lane).rx.length ∧ busy.dtt[0].owner.lane = 3 ∧
      busy.slots[0].owner.lane = 2 := by decide

end Sys2Proof.Tests
end

section
/-! The management operations of the window table (chapters 1 and 9): what the checks of R164 answer, how the words of
STAGE WINDOW become a record, and the statements about STAGE WINDOW, READ WINDOW and COMMIT. -/

namespace Sys2Proof.Machine

/-! ### The checks of R164 -/

/-- Every operation but CLAIM and GET STATUS is the manager's (R164). -/
theorem roleRefusal_of_managersOperation {op : MgmtOp} (hc : op ≠ .claim) (hg : op ≠ .getStatus) (n : LaneId)
    (m : Option LaneId) : roleRefusal op n m = if m = some n then none else some (refused .notManager) := by
  cases op
  case claim => contradiction
  case getStatus => contradiction
  all_goals rfl

/-- A parcel that fails the role check is answered with that refusal and nothing else changes, whatever its
arguments. -/
theorem takeMgmt_refused_role {op : MgmtOp} {effect : LaneId → List Word → State → Option (State × Reply)} {s : State}
    {n : LaneId} {p : Parcel} {args : List Word} {r : Reply} (h : TakesMgmt s n p op args)
    (hr : roleRefusal op n s.manager = some r) (ht : r.trigger = false) :
    takeMgmt op effect s = answered s n (responseTo p r.status r.info r.data) := by
  have hm : manage op effect n args (beginTaking n s) = (beginTaking n s, r) := by
    simp [manage, hr]
  rw [takeMgmt_taken h, hm]
  exact respond_beginTaking ht

/-- With the role check passed, a wrong number of argument words or an argument value that the operation does not
take is refused BAD-ARGUMENT, and nothing else changes. -/
theorem takeMgmt_badArgument {op : MgmtOp} {effect : LaneId → List Word → State → Option (State × Reply)} {s : State}
    {n : LaneId} {p : Parcel} {args : List Word} (h : TakesMgmt s n p op args)
    (hr : roleRefusal op n s.manager = none)
    (ha : args.length = op.argCount → effect n args (beginTaking n s) = none) :
    takeMgmt op effect s = answered s n (responseTo p (.refused .badArgument) 0 []) := by
  have hm : manage op effect n args (beginTaking n s) = (beginTaking n s, refused .badArgument) := by
    by_cases hc : args.length = op.argCount
    · simp [manage, hr, hc, ha hc]
    · simp [manage, hr, hc]
  rw [takeMgmt_taken h, hm]
  exact respond_beginTaking rfl

/-- An operation that passes the checks and hands no ALERT trigger: the answer is placed on what its effect leaves of
the state before the taking. -/
theorem takeMgmt_accepted {op : MgmtOp} {effect : LaneId → List Word → State → Option (State × Reply)} {s v w : State}
    {n : LaneId} {p : Parcel} {args : List Word} {r : Reply} (h : TakesMgmt s n p op args)
    (hr : roleRefusal op n s.manager = none) (hc : args.length = op.argCount)
    (he : effect n args (beginTaking n s) = some (w, r)) (ht : r.trigger = false) (hl : v.lanes = s.lanes)
    (hw : w = { v with lanes := (beginTaking n s).lanes, lastGranted := n }) :
    takeMgmt op effect s = answered v n (responseTo p r.status r.info r.data) := by
  have hm : manage op effect n args (beginTaking n s) = (w, r) := by
    simp [manage, hr, hc, he]
  rw [takeMgmt_taken h, hm, respond_answered hl hw, ht]
  rfl

/-- The two refusals that come before the argument values, for every operation of the manager (R164). -/
theorem refusedFirst_of_takeMgmt {op : MgmtOp} {effect : LaneId → List Word → State → Option (State × Reply)}
    {s : State} {n : LaneId} {p : Parcel} {args : List Word} (hx : exec (commandOf op) s = .next (takeMgmt op effect s))
    (hc : op ≠ .claim) (hg : op ≠ .getStatus) (h : TakesMgmt s n p op args) : RefusedFirst op s n p args := by
  have role := roleRefusal_of_managersOperation hc hg n s.manager
  rw [RefusedFirst, hx]
  refine ⟨fun hm => ?_, fun hm hl => ?_⟩
  · rw [if_neg hm] at role
    rw [takeMgmt_refused_role h role rfl]
    rfl
  · rw [if_pos hm] at role
    rw [takeMgmt_badArgument h role fun hl' => absurd hl' hl]

/-! ### Fields and codes of a word -/

theorem field_eq_extractLsb' (w : Word) (hi lo : Nat) : field w hi lo = (w.extractLsb' lo (hi + 1 - lo)).toNat := by
  simp [field, Nat.shiftRight_eq_div_pow]

/-- A field cut out of a word and read back at its own width is the field's bits. -/
theorem ofNat_field (w : Word) (hi lo : Nat) :
    BitVec.ofNat (hi + 1 - lo) (field w hi lo) = w.extractLsb' lo (hi + 1 - lo) := by
  rw [field_eq_extractLsb', BitVec.ofNat_toNat, BitVec.setWidth_eq]

/-- A field of one bit is that bit. -/
theorem field_bit (w : Word) (k : Nat) : field w k k = (w.getLsbD k).toNat := by
  simp [field, BitVec.getLsbD, Nat.toNat_testBit]

theorem field_bit_eq_zero (w : Word) (k : Nat) : field w k k = 0 ↔ w.getLsbD k = false := by
  rw [field_bit, Bool.toNat_eq_zero]

theorem field_bit_eq_one (w : Word) (k : Nat) : field w k k = 1 ↔ w.getLsbD k = true := by
  rw [field_bit, Bool.toNat_eq_one]

theorem field_bit_ne_zero {w : Word} {k : Nat} (h : w.getLsbD k = true) : ¬field w k k = 0 := by
  simp only [field_bit_eq_zero, h, Bool.true_eq_false, not_false_eq_true]

theorem segmentOfCode_segmentCode (g : Segment) : segmentOfCode (segmentCode g) = some g := by
  cases g <;> rfl

theorem ReadMode.ofCode_code (m : ReadMode) : ReadMode.ofCode m.code = some m := by
  cases m <;> rfl

theorem WriteMode.ofCode_code (m : WriteMode) : WriteMode.ofCode m.code = some m := by
  cases m <;> rfl

theorem WriteMode.eq_posted_iff (m : WriteMode) : m = .posted ↔ m.code = 1 := by
  cases m <;> decide

/-- The codes 0 and 1 name a segment, and no other code does. -/
theorem segmentOfCode_cases (c : Nat) :
    (c ≤ 1 ∧ ∃ g, segmentCode g = c) ∨ (1 < c ∧ segmentOfCode c = none) := by
  match c with
  | 0 => exact .inl ⟨by decide, .a, rfl⟩
  | 1 => exact .inl ⟨by decide, .b, rfl⟩
  | c + 2 => exact .inr ⟨by omega, rfl⟩

/-- The codes 0, 1 and 2 name a read mode, and no other code does. -/
theorem ReadMode.ofCode_cases (c : Nat) :
    (c ≤ 2 ∧ ∃ m : ReadMode, m.code = c) ∨ (2 < c ∧ ReadMode.ofCode c = Option.none) := by
  match c with
  | 0 => exact .inl ⟨by decide, .none, rfl⟩
  | 1 => exact .inl ⟨by decide, .deferred, rfl⟩
  | 2 => exact .inl ⟨by decide, .stream, rfl⟩
  | c + 3 => exact .inr ⟨by omega, rfl⟩

/-- The codes 0, 1 and 2 name a write mode, and no other code does. -/
theorem WriteMode.ofCode_cases (c : Nat) :
    (c ≤ 2 ∧ ∃ m : WriteMode, m.code = c) ∨ (2 < c ∧ WriteMode.ofCode c = Option.none) := by
  match c with
  | 0 => exact .inl ⟨by decide, .none, rfl⟩
  | 1 => exact .inl ⟨by decide, .posted, rfl⟩
  | 2 => exact .inl ⟨by decide, .acked, rfl⟩
  | c + 3 => exact .inr ⟨by omega, rfl⟩

/-! ### The record of four words (R5, R6, R197) -/

/-- The valid record with the fields of four words, its segment and modes as named by their codes (R197). -/
def suppliedRecord (w0 w1 w2 w3 : Word) (g : Segment) (rm : ReadMode) (wm : WriteMode) : WindowRecord where
  valid := true
  base := w1
  sizeCode := w0.extractLsb' 0 5
  segment := g
  targetBase := w2.extractLsb' 0 28
  readMode := rm
  writeMode := wm
  merge := w0.getLsbD 20
  readLanes := w3.extractLsb' 0 15
  writeLanes := w3.extractLsb' 16 15

/-- With valid = no the other words do not matter (R2, R5). -/
theorem ofWords_of_not_valid {w0 : Word} (hv : w0.getLsbD 31 = false) (w1 w2 w3 : Word) :
    WindowRecord.ofWords w0 w1 w2 w3 = some WindowRecord.cleared := by
  rw [WindowRecord.ofWords, if_pos ((field_bit_eq_zero w0 31).2 hv)]

/-- With valid = yes a code that names no segment or no mode is refused (R6). -/
theorem ofWords_of_unnamed_code {w0 : Word} (hv : w0.getLsbD 31 = true) (w1 w2 w3 : Word)
    (h : segmentOfCode (field w0 9 8) = none ∨ ReadMode.ofCode (field w0 13 12) = none ∨
      WriteMode.ofCode (field w0 17 16) = none) : WindowRecord.ofWords w0 w1 w2 w3 = none := by
  rw [WindowRecord.ofWords, if_neg (field_bit_ne_zero hv)]
  rcases h with h | h | h <;> simp [h]

section
variable {w0 w1 w2 w3 : Word} {g : Segment} {rm : ReadMode} {wm : WriteMode}
  (hg : segmentCode g = (w0.extractLsb' 8 2).toNat) (hr : rm.code = (w0.extractLsb' 12 2).toNat)
  (hw : wm.code = (w0.extractLsb' 16 2).toNat)
include hg hr hw

/-- When its three codes have names, the numbers of the supplied record and the two reserved bits decide the checks of
R6. -/
theorem suppliedRecord_passes_iff :
    (((suppliedRecord w0 w1 w2 w3 g rm wm).passes = true ∧ w3.getLsbD 15 = false) ∧ w3.getLsbD 31 = false) ↔
      RecordWordsOk w0 w1 w2 w3 := by
  have hg1 : (w0.extractLsb' 8 2).toNat ≤ 1 := by rw [← hg]; cases g <;> decide
  have hr2 : (w0.extractLsb' 12 2).toNat ≤ 2 := by rw [← hr]; cases rm <;> decide
  have hw2 : (w0.extractLsb' 16 2).toNat ≤ 2 := by rw [← hw]; cases wm <;> decide
  simp only [WindowRecord.passes, Bool.and_eq_true, Bool.or_eq_true, Bool.not_eq_true', decide_eq_true_eq,
    WriteMode.eq_posted_iff]
  simp only [WindowRecord.size, suppliedRecord, hw, RecordWordsOk]
  tauto

/-- When its three codes have names, the words are read as the supplied record or fail a check of R6. -/
theorem ofWords_of_codes (hv : w0.getLsbD 31 = true) :
    WindowRecord.ofWords w0 w1 w2 w3 =
      if RecordWordsOk w0 w1 w2 w3 then some (suppliedRecord w0 w1 w2 w3 g rm wm) else none := by
  have cg : segmentOfCode (field w0 9 8) = some g := by
    rw [field_eq_extractLsb', ← hg, segmentOfCode_segmentCode]
  have cr : ReadMode.ofCode (field w0 13 12) = some rm := by
    rw [field_eq_extractLsb', ← hr, ReadMode.ofCode_code]
  have cw : WriteMode.ofCode (field w0 17 16) = some wm := by
    rw [field_eq_extractLsb', ← hw, WriteMode.ofCode_code]
  have bsize : BitVec.ofNat 5 (field w0 4 0) = w0.extractLsb' 0 5 := ofNat_field w0 4 0
  have btarget : BitVec.ofNat 28 (field w2 27 0) = w2.extractLsb' 0 28 := ofNat_field w2 27 0
  have bread : BitVec.ofNat 15 (field w3 14 0) = w3.extractLsb' 0 15 := ofNat_field w3 14 0
  have bwrite : BitVec.ofNat 15 (field w3 30 16) = w3.extractLsb' 16 15 := ofNat_field w3 30 16
  rw [WindowRecord.ofWords, if_neg (field_bit_ne_zero hv), cg, cr, cw]
  simp only [bsize, btarget, bread, bwrite, field_bit_eq_zero, field_bit_eq_one, Bool.decide_eq_true,
    Bool.and_eq_true, decide_eq_true_eq]
  exact if_congr (suppliedRecord_passes_iff hg hr hw) rfl rfl

end

/-- Words that pass every check of R6 are read as a record with their fields. -/
theorem ofWords_of_recordWordsOk {w0 w1 w2 w3 : Word} (hv : w0.getLsbD 31 = true) (ok : RecordWordsOk w0 w1 w2 w3) :
    ∃ r : WindowRecord, r.Carries w0 w1 w2 w3 ∧ WindowRecord.ofWords w0 w1 w2 w3 = some r := by
  have ⟨_, _, _, _, segmentOk, readOk, writeOk, _⟩ := ok
  obtain ⟨-, g, hg⟩ := (segmentOfCode_cases _).resolve_right fun h => absurd h.1 (Nat.not_lt.2 segmentOk)
  obtain ⟨-, rm, hr⟩ := (ReadMode.ofCode_cases _).resolve_right fun h => absurd h.1 (Nat.not_lt.2 readOk)
  obtain ⟨-, wm, hw⟩ := (WriteMode.ofCode_cases _).resolve_right fun h => absurd h.1 (Nat.not_lt.2 writeOk)
  exact ⟨suppliedRecord w0 w1 w2 w3 g rm wm, ⟨hv.symm, rfl, rfl, rfl, hg, hr, hw, rfl, rfl, rfl⟩,
    by rw [ofWords_of_codes hg hr hw hv, if_pos ok]⟩

/-- Words of a valid record that fail a check of R6 are read as no record. -/
theorem ofWords_of_not_recordWordsOk {w0 w1 w2 w3 : Word} (hv : w0.getLsbD 31 = true)
    (bad : ¬RecordWordsOk w0 w1 w2 w3) : WindowRecord.ofWords w0 w1 w2 w3 = none := by
  rcases segmentOfCode_cases (field w0 9 8) with ⟨-, g, hg⟩ | ⟨-, hg⟩
  · rcases ReadMode.ofCode_cases (field w0 13 12) with ⟨-, rm, hr⟩ | ⟨-, hr⟩
    · rcases WriteMode.ofCode_cases (field w0 17 16) with ⟨-, wm, hw⟩ | ⟨-, hw⟩
      · rw [field_eq_extractLsb'] at hg hr hw
        rw [ofWords_of_codes hg hr hw hv, if_neg bad]
      · exact ofWords_of_unnamed_code hv w1 w2 w3 (.inr (.inr hw))
    · exact ofWords_of_unnamed_code hv w1 w2 w3 (.inr (.inl hr))
  · exact ofWords_of_unnamed_code hv w1 w2 w3 (.inl hg)

/-! ### STAGE WINDOW and READ WINDOW (R5, R7) -/

theorem indexOf_of_eq {n : Nat} {w : Word} {k : Fin n} (h : w.toNat = k.val) : indexOf n w = some k := by
  simp [indexOf, h]

theorem indexOf_eq_none {n : Nat} {w : Word} (h : n ≤ w.toNat) : indexOf n w = none := by
  simp [indexOf, Nat.not_lt.2 h]

theorem bankOf_eq_none {s : State} {c : Nat} (h : 2 ≤ c) : bankOf s c = none := by
  match c, h with
  | c + 2, _ => rfl

theorem stageWindowEffect_stores {i w0 w1 w2 w3 : Word} {k : WindowIndex} {r : WindowRecord} (hi : i.toNat = k.val)
    (hr : WindowRecord.ofWords w0 w1 w2 w3 = some r) (n : LaneId) (s : State) :
    stageWindowEffect n [i, w0, w1, w2, w3] s = some ({ s with staged := s.staged.set k r }, complete) := by
  simp [stageWindowEffect, indexOf_of_eq hi, hr]

theorem stageWindowEffect_refuses {i w0 w1 w2 w3 : Word}
    (h : 24 ≤ i.toNat ∨ WindowRecord.ofWords w0 w1 w2 w3 = none) (n : LaneId) (s : State) :
    stageWindowEffect n [i, w0, w1, w2, w3] s = none := by
  rcases h with hi | hr
  · simp [stageWindowEffect, indexOf_eq_none hi]
  · simp [stageWindowEffect, hr]

theorem readWindowEffect_reads {i b : Word} {k : WindowIndex} {s : State} {bank : Vector WindowRecord 24}
    (hi : i.toNat = k.val) (hb : bankOf s b.toNat = some bank) (n : LaneId) :
    readWindowEffect n [i, b] s = some (s, { status := .complete, data := bank[k].toWords }) := by
  simp [readWindowEffect, indexOf_of_eq hi, hb]

theorem readWindowEffect_refuses {i b : Word} (h : 24 ≤ i.toNat ∨ 2 ≤ b.toNat) (n : LaneId) (s : State) :
    readWindowEffect n [i, b] s = none := by
  rcases h with hi | hb
  · simp [readWindowEffect, indexOf_eq_none hi]
  · simp [readWindowEffect, bankOf_eq_none hb]

/-- STAGE WINDOW from the manager with words that are read as a record. -/
theorem exec_stageWindow_stores {s : State} {n : LaneId} {p : Parcel} {i w0 w1 w2 w3 : Word} {k : WindowIndex}
    {r : WindowRecord} (hm : s.manager = some n) (h : TakesMgmt s n p .stageWindow [i, w0, w1, w2, w3])
    (hi : i.toNat = k.val) (hr : WindowRecord.ofWords w0 w1 w2 w3 = some r) :
    exec .stageWindow s =
      .next (answered { s with staged := s.staged.set k r } n (responseTo p .complete 0 [])) :=
  congrArg Host.Outcome.next <|
    takeMgmt_accepted h (if_pos hm) rfl (stageWindowEffect_stores hi hr n _) rfl rfl rfl

/-- READ WINDOW from the manager with a bank code that names a bank. -/
theorem exec_readWindow_reads {s : State} {n : LaneId} {p : Parcel} {i b : Word} {k : WindowIndex}
    {bank : Vector WindowRecord 24} (hm : s.manager = some n) (h : TakesMgmt s n p .readWindow [i, b])
    (hi : i.toNat = k.val) (hb : bankOf (beginTaking n s) b.toNat = some bank) :
    exec .readWindow s = .next (answered s n (responseTo p .complete 0 bank[k].toWords)) :=
  congrArg Host.Outcome.next <|
    takeMgmt_accepted (v := s) h (if_pos hm) rfl (readWindowEffect_reads hi hb n) rfl rfl rfl

/-- Settles O37: STAGE WINDOW by what its words are read as, READ WINDOW by its bank code. -/
theorem stageAndReadWindow : Obligations.StageAndReadWindow := by
  intro s n p
  refine ⟨fun args h => refusedFirst_of_takeMgmt rfl (by decide) (by decide) h,
    fun args h => refusedFirst_of_takeMgmt rfl (by decide) (by decide) h, fun hm => ⟨?_, ?_⟩⟩
  · intro i w0 w1 w2 w3 h
    refine ⟨fun k hi hv => ?_, fun k hi hv ok => ?_, fun bad => ?_⟩
    · exact exec_stageWindow_stores hm h hi (ofWords_of_not_valid hv w1 w2 w3)
    · obtain ⟨r, carries, hr⟩ := ofWords_of_recordWordsOk hv ok
      exact ⟨r, carries, exec_stageWindow_stores hm h hi hr⟩
    · have refuses := bad.imp_right fun ⟨hv, nok⟩ => ofWords_of_not_recordWordsOk hv nok
      exact congrArg Host.Outcome.next <|
        takeMgmt_badArgument h (if_pos hm) fun _ => stageWindowEffect_refuses refuses n _
  · intro i b h
    refine ⟨fun k hi => ⟨?_, ?_⟩, fun bad => ?_⟩
    · rintro rfl
      exact exec_readWindow_reads hm h hi rfl
    · rintro rfl
      exact exec_readWindow_reads hm h hi rfl
    · exact congrArg Host.Outcome.next <|
        takeMgmt_badArgument h (if_pos hm) fun _ => readWindowEffect_refuses bad n _

/-! ### COMMIT (R11 to R14) -/

/-- What a drop makes of a slot is what R118 says of it. -/
theorem StreamSlot.droppedTo_drop (x : StreamSlot) : x.DroppedTo x.drop := by
  unfold StreamSlot.DroppedTo StreamSlot.drop
  cases x.state with
  | empty => rfl
  | holding => exact ⟨rfl, rfl⟩
  | filling =>
    cases x.inCycle with
    | true => rfl
    | false => exact ⟨rfl, rfl⟩
  | retiring => rfl

/-- A FREE or QUEUED entry is FREE after a COMMIT (R12). -/
theorem DttEntry.commit_state_free {e : DttEntry} (h : e.state = .free ∨ e.state = .queued) :
    e.commit.state = .free := by
  rcases h with h | h
  · simp [DttEntry.commit, h]
  · simp [DttEntry.commit, h, DttEntry.cleared]

/-- Every other entry loses its stream flag at a COMMIT and nothing else (R12). -/
theorem DttEntry.commit_of_not_free_of_not_queued {e : DttEntry} (hf : e.state ≠ .free) (hq : e.state ≠ .queued) :
    e.commit = { e with streamFlag := false } := by
  unfold DttEntry.commit
  split
  · exact absurd ‹_› hf
  · exact absurd ‹_› hq
  all_goals rfl

/-- The effects of a COMMIT, field by field. -/
theorem commitAll_eq (s : State) :
    commitAll s = { s with
      live := s.staged
      generation := s.generation + 1
      dtt := mapAll DttEntry.commit s.dtt
      slots := mapAll StreamSlot.drop s.slots
      refillOrder := keptOrder (mapAll StreamSlot.drop s.slots) s.refillOrder
      queues := { a := s.queues.a.closeTail, b := s.queues.b.closeTail } } := rfl

/-- COMMIT from the manager, without argument words. -/
theorem exec_commit {s : State} {n : LaneId} {p : Parcel} (hm : s.manager = some n)
    (h : TakesMgmt s n p .commit []) :
    exec .commit s = .next (answered (commitAll s) n (responseTo p .complete (s.generation + 1) [])) :=
  congrArg Host.Outcome.next <|
    takeMgmt_accepted (v := commitAll s) (r := { status := .complete, info := s.generation + 1 }) h (if_pos hm) rfl rfl
      rfl rfl rfl

/-- Settles O39: the effects of COMMIT entry by entry and slot by slot. -/
theorem commitEffects : Obligations.CommitEffects := by
  intro s n p args h
  refine ⟨refusedFirst_of_takeMgmt rfl (by decide) (by decide) h, ?_⟩
  rintro hm rfl
  refine ⟨commitAll s, exec_commit hm h, ?_⟩
  rw [commitAll_eq]
  refine ⟨rfl, fun i => ⟨fun hi => ?_, fun hf hq => ?_⟩, fun i => ?_⟩
  · rw [mapAll_table]
    exact DttEntry.commit_state_free hi
  · rw [mapAll_table]
    exact DttEntry.commit_of_not_free_of_not_queued hf hq
  · rw [mapAll_table]
    exact s.slots[i].droppedTo_drop

end Sys2Proof.Machine
end

section
/-! READ and WRITE at the intake (chapter 2): what their handlers do does not depend on the parcel being still in the
receive buffer, so an intake command answers what its handler makes of the state before the taking; then the checks of
R26 to R33 in their order, and the statements about served, repeated, refused and deferred requests. -/

namespace Sys2Proof.Machine

/-! ### The taking and the handling commute (R18)

The taking changes a receive buffer and the last lane granted, which no handler of a READ or WRITE reads or writes. -/

@[simp] theorem dropSlot_beginTaking (n : LaneId) (i : SlotIndex) (s : State) :
    dropSlot i (beginTaking n s) = beginTaking n (dropSlot i s) := rfl

@[simp] theorem beginTaking_setEntry (n : LaneId) (i : EntryIndex) (e : DttEntry) (s : State) :
    (beginTaking n s).setEntry i e = beginTaking n (s.setEntry i e) := rfl

@[simp] theorem beginTaking_setSlot (n : LaneId) (i : SlotIndex) (x : StreamSlot) (s : State) :
    (beginTaking n s).setSlot i x = beginTaking n (s.setSlot i x) := rfl

@[simp] theorem ownSlot_beginTaking (n : LaneId) (o : Owner) (s : State) :
    ownSlot o (beginTaking n s) = ownSlot o s := rfl

@[simp] theorem chooseSlot_beginTaking (n : LaneId) (o : Owner) (s : State) :
    chooseSlot o (beginTaking n s) = chooseSlot o s := rfl

@[simp] theorem matchEntry_beginTaking (n : LaneId) (o : Owner) (kind : EntryKind) (a : Word) (w : Nat)
    (ws : List WriteWord) (s : State) :
    matchEntry o kind a w ws (beginTaking n s) = matchEntry o kind a w ws s := rfl

@[simp] theorem checkWindow_beginTaking (n m : LaneId) (x : Access) (a : Word) (s : State) :
    checkWindow m x a (beginTaking n s) = checkWindow m x a s := rfl

@[simp] theorem requestRefill_beginTaking (n : LaneId) (i : SlotIndex) (s : State) :
    requestRefill i (beginTaking n s) = beginTaking n (requestRefill i s) := by
  unfold requestRefill
  dsimp only
  rw [apply_ite (beginTaking n)]
  rfl

@[simp] theorem serveSlot_beginTaking (n : LaneId) (i : SlotIndex) (w : Nat) (s : State) :
    serveSlot i w (beginTaking n s) = beginTaking n (serveSlot i w s) := by
  unfold serveSlot
  dsimp only
  rw [beginTaking_setSlot, beginTaking_setSlot, requestRefill_beginTaking]
  exact (apply_ite (beginTaking n) _ _ _).symm

@[simp] theorem fillSlot_beginTaking (n : LaneId) (o : Owner) (k : WindowIndex) (g : Segment) (next : Word)
    (i : SlotIndex) (s : State) :
    fillSlot o k g next i (beginTaking n s) = beginTaking n (fillSlot o k g next i s) := by
  unfold fillSlot
  rw [beginTaking_setSlot, requestRefill_beginTaking]
  rfl

@[simp] theorem takeSlot_beginTaking (n : LaneId) (o : Owner) (k : WindowIndex) (g : Segment) (next : Word)
    (s : State) : takeSlot o k g next (beginTaking n s) = beginTaking n (takeSlot o k g next s) := by
  unfold takeSlot
  rw [chooseSlot_beginTaking]
  cases chooseSlot o s with
  | none => rfl
  | some i => exact fillSlot_beginTaking n o k g next i s

@[simp] theorem allocateSlot_beginTaking (n : LaneId) (o : Owner) (k : WindowIndex) (g : Segment) (a : Word) (w : Nat)
    (s : State) : allocateSlot o k g a w (beginTaking n s) = beginTaking n (allocateSlot o k g a w s) := by
  unfold allocateSlot
  rw [ownSlot_beginTaking]
  cases ownSlot o s with
  | none =>
    dsimp only
    rw [takeSlot_beginTaking]
    exact (apply_ite (beginTaking n) _ _ _).symm
  | some i =>
    dsimp only
    rw [dropSlot_beginTaking, takeSlot_beginTaking, fillSlot_beginTaking, apply_ite (beginTaking n),
      apply_ite (beginTaking n)]
    rfl

theorem createEntry_beginTaking (n : LaneId) (o : Owner) (kind : EntryKind) (a : Word) (w : Nat)
    (ws : List WriteWord) (k : WindowIndex) (s : State) :
    createEntry o kind a w ws k (beginTaking n s) = (createEntry o kind a w ws k s).map (beginTaking n) := by
  unfold createEntry
  rw [beginTaking_dtt]
  cases findFirst (fun e => decide (e.state = .free)) s.dtt with
  | none => rfl
  | some i =>
    dsimp only
    rw [apply_ite (Option.map (beginTaking n))]
    rfl

theorem acceptPosted_beginTaking (n : LaneId) (o : Owner) (k : WindowIndex) (a : SegAddr) (ws : List WriteWord)
    (s : State) :
    acceptPosted o k a ws (beginTaking n s) = (acceptPosted o k a ws s).map (beginTaking n) := by
  unfold acceptPosted
  dsimp only
  simp only [apply_ite (Option.map (beginTaking n))]
  rfl

/-- The handler answers the same whether or not lane n's parcel has left its buffer, and leaves that buffer alone. -/
def IgnoresTaking (n : LaneId) (h : Handler) : Prop :=
  ∀ s, h (beginTaking n s) = (beginTaking n (h s).1, (h s).2)

theorem repeatOf_ignoresTaking (n : LaneId) (o : Owner) (i : EntryIndex) : IgnoresTaking n (repeatOf o i) := by
  intro s
  unfold repeatOf collect
  simp only [beginTaking_dtt, beginTaking_setEntry, allocateSlot_beginTaking]
  by_cases hr : s.dtt[i].state = .ready
  · by_cases ha : s.dtt[i].kind = .read ∧ s.dtt[i].outcome = .success ∧ s.dtt[i].streamFlag = true
    · simp only [if_pos hr, if_pos ha]
    · simp only [if_pos hr, if_neg ha]
  · simp only [if_neg hr]

theorem readNew_ignoresTaking (n : LaneId) (a : Word) (w : Nat) : IgnoresTaking n (readNew n a w) := by
  intro s
  unfold readNew
  rw [checkWindow_beginTaking]
  cases checkWindow n .read a s with
  | error r => rfl
  | ok k =>
    dsimp only
    rw [beginTaking_currentOwner, createEntry_beginTaking]
    cases createEntry (s.currentOwner n) .read a w [] k s <;> rfl

theorem readMatch_ignoresTaking (n : LaneId) (a : Word) (w : Nat) : IgnoresTaking n (readMatch n a w) := by
  intro s
  unfold readMatch
  rw [beginTaking_currentOwner, matchEntry_beginTaking]
  cases matchEntry (s.currentOwner n) .read a w [] s with
  | none => exact readNew_ignoresTaking n a w s
  | some i => exact repeatOf_ignoresTaking n _ i s

theorem readServed_ignoresTaking (n : LaneId) (i : SlotIndex) (w : Nat) : IgnoresTaking n (readServed i w) := by
  intro s
  unfold readServed
  rw [beginTaking_slots, serveSlot_beginTaking]
  by_cases h : w ≤ s.slots[i].held.length
  · simp only [if_pos h]
  · simp only [if_neg h]

theorem readStream_ignoresTaking (n : LaneId) (a : Word) (w : Nat) : IgnoresTaking n (readStream n a w) := by
  intro s
  unfold readStream
  rw [beginTaking_currentOwner, ownSlot_beginTaking]
  cases ownSlot (s.currentOwner n) s with
  | none => exact readMatch_ignoresTaking n a w s
  | some i =>
    dsimp only
    simp only [beginTaking_slots, beginTaking_live, dropSlot_beginTaking]
    by_cases hn : a = s.slots[i].nextAddr
    · simp only [if_pos hn]
      exact readServed_ignoresTaking n i w s
    · by_cases hw : s.live[s.slots[i].window].spans a = true
      · simp only [if_neg hn, if_pos hw]
        exact readMatch_ignoresTaking n a w (dropSlot i s)
      · simp only [if_neg hn, if_neg hw]
        exact readMatch_ignoresTaking n a w s

theorem writeNew_ignoresTaking (n : LaneId) (a : Word) (ws : List WriteWord) : IgnoresTaking n (writeNew n a ws) := by
  intro s
  unfold writeNew
  rw [checkWindow_beginTaking]
  cases checkWindow n .write a s with
  | error r => rfl
  | ok k =>
    dsimp only
    rw [beginTaking_currentOwner, beginTaking_live, acceptPosted_beginTaking, createEntry_beginTaking]
    cases s.live[k].writeMode with
    | posted => cases acceptPosted (s.currentOwner n) k (s.live[k].translate a) ws s <;> rfl
    | acked => cases createEntry (s.currentOwner n) .ackedWrite a ws.length ws k s <;> rfl
    | none => rfl

theorem writeMatch_ignoresTaking (n : LaneId) (a : Word) (ws : List WriteWord) :
    IgnoresTaking n (writeMatch n a ws) := by
  intro s
  unfold writeMatch
  rw [beginTaking_currentOwner, matchEntry_beginTaking]
  cases matchEntry (s.currentOwner n) .ackedWrite a ws.length ws s with
  | none => exact writeNew_ignoresTaking n a ws s
  | some i => exact repeatOf_ignoresTaking n _ i s

/-! ### The answer to a READ or WRITE past the gate -/

theorem gated_opened {s : State} (h : Handler) (hg : s.gate = .opened) : gated h s = h s := by
  unfold gated
  rw [hg]

/-- The answer of a handler that does not see the taking is placed on what it makes of the state before the taking. -/
theorem takeParcel_gated {handler : LaneId → Request → Option Handler} {h : Handler} {s t : State} {n : LaneId}
    {p : Parcel} {r : Reply} (ht : nextTaking s = some { lane := n, parcel := p })
    (hh : handler n (requestOf p) = some (gated h)) (hg : s.gate = .opened) (hi : IgnoresTaking n h)
    (he : h s = (t, r)) (hr : r.trigger = false) :
    takeParcel handler s = answered t n (responseTo p r.status r.info r.data) := by
  have taken : gated h (beginTaking n s) = (beginTaking n t, r) := by
    rw [gated_opened (s := beginTaking n s) h hg, hi s, he]
  rw [takeParcel_taken ht hh, taken]
  exact respond_beginTaking hr

section
variable {s t : State} {n : LaneId} {p : Parcel} {a : Word} {w : Nat} {ws : List WriteWord} {r : Reply}

/-- READ: the stream check and what follows it, on the state before the taking (R25). -/
theorem exec_read_eq (h : TakesRequest s n p (.read a w)) (hg : s.gate = .opened)
    (he : readStream n a w s = (t, r)) (hr : r.trigger = false) :
    exec .read s = .next (answered t n (responseTo p r.status r.info r.data)) :=
  congrArg Host.Outcome.next <|
    takeParcel_gated h.1 (by rw [h.2]) hg (readStream_ignoresTaking n a w) he hr

/-- WRITE: the match and what follows it, on the state before the taking (R25). -/
theorem exec_write_eq (h : TakesRequest s n p (.write a ws)) (hg : s.gate = .opened)
    (he : writeMatch n a ws s = (t, r)) (hr : r.trigger = false) :
    exec .write s = .next (answered t n (responseTo p r.status r.info r.data)) :=
  congrArg Host.Outcome.next <|
    takeParcel_gated h.1 (by rw [h.2]) hg (writeMatch_ignoresTaking n a ws) he hr

end

/-! ### The stream check (R26, R27) -/

theorem readStream_served {s : State} {n : LaneId} {a : Word} {i : SlotIndex}
    (ho : ownSlot (s.currentOwner n) s = some i) (ha : a = s.slots[i].nextAddr) (w : Nat) :
    readStream n a w s = readServed i w s := by
  simp only [readStream, ho, if_pos ha]

theorem readStream_notServed {s : State} {n : LaneId} {a : Word} (h : NotServed n a s) (w : Nat) :
    readStream n a w s = readMatch n a w (passStream n a s) := by
  unfold readStream passStream
  cases ho : ownSlot (s.currentOwner n) s with
  | none => rfl
  | some i =>
    dsimp only
    rw [if_neg (h i ho), apply_ite (readMatch n a w)]

theorem readServed_enough {s : State} {i : SlotIndex} {w : Nat} (h : w ≤ s.slots[i].held.length) :
    readServed i w s = (serveSlot i w s, { status := .complete, data := s.slots[i].held.take w }) := if_pos h

theorem readServed_fewer {s : State} {i : SlotIndex} {w : Nat} (h : s.slots[i].held.length < w) :
    readServed i w s = (s, retry) := if_neg (Nat.not_le.2 h)

/-- A READ that is passed on changes at most the slots and their order (R27). -/
theorem passStream_frame (n : LaneId) (a : Word) (s : State) :
    passStream n a s = { s with
      slots := (passStream n a s).slots
      refillOrder := (passStream n a s).refillOrder } := by
  unfold passStream
  split
  · split
    · rw [dropSlot_frame]
    · rfl
  · rfl

@[simp] theorem passStream_dtt (n : LaneId) (a : Word) (s : State) : (passStream n a s).dtt = s.dtt := by
  rw [passStream_frame]

@[simp] theorem passStream_currentOwner (n m : LaneId) (a : Word) (s : State) :
    (passStream n a s).currentOwner m = s.currentOwner m := by
  rw [passStream_frame]
  rfl

@[simp] theorem checkWindow_passStream (n m : LaneId) (x : Access) (a b : Word) (s : State) :
    checkWindow m x b (passStream n a s) = checkWindow m x b s := by
  rw [passStream_frame]
  rfl

@[simp] theorem matchEntry_passStream (n : LaneId) (b : Word) (o : Owner) (kind : EntryKind) (a : Word) (w : Nat)
    (ws : List WriteWord) (s : State) :
    matchEntry o kind a w ws (passStream n b s) = matchEntry o kind a w ws s := by
  rw [passStream_frame]
  rfl

/-- Settles O23: the two answers of a slot at the READ's address. -/
theorem readServedFromOwnSlot : Obligations.ReadServedFromOwnSlot := by
  intro s n p a w i h hg ho ha
  have served := readStream_served ho ha w
  exact ⟨fun enough => exec_read_eq h hg (served.trans (readServed_enough enough)) rfl,
    fun fewer => exec_read_eq h hg (served.trans (readServed_fewer fewer)) rfl⟩

/-! ### Requests that match an entry, and requests that match none (R28) -/

section
variable {s t : State} {n : LaneId} {p : Parcel} {a : Word} {w : Nat} {ws : List WriteWord} {i : EntryIndex} {r : Reply}

theorem exec_read_matched (h : TakesRequest s n p (.read a w)) (hg : s.gate = .opened) (hs : NotServed n a s)
    (hm : matchEntry (s.currentOwner n) .read a w [] s = some i)
    (he : repeatOf (s.currentOwner n) i (passStream n a s) = (t, r)) (hr : r.trigger = false) :
    exec .read s = .next (answered t n (responseTo p r.status r.info r.data)) := by
  refine exec_read_eq h hg ?_ hr
  rw [readStream_notServed hs, readMatch, passStream_currentOwner, matchEntry_passStream, hm]
  exact he

theorem exec_read_unmatched (h : TakesRequest s n p (.read a w)) (hg : s.gate = .opened) (hs : NotServed n a s)
    (hm : matchEntry (s.currentOwner n) .read a w [] s = none)
    (he : readNew n a w (passStream n a s) = (t, r)) (hr : r.trigger = false) :
    exec .read s = .next (answered t n (responseTo p r.status r.info r.data)) := by
  refine exec_read_eq h hg ?_ hr
  rw [readStream_notServed hs, readMatch, passStream_currentOwner, matchEntry_passStream, hm]
  exact he

theorem exec_write_matched (h : TakesRequest s n p (.write a ws)) (hg : s.gate = .opened)
    (hm : matchEntry (s.currentOwner n) .ackedWrite a ws.length ws s = some i)
    (he : repeatOf (s.currentOwner n) i s = (t, r)) (hr : r.trigger = false) :
    exec .write s = .next (answered t n (responseTo p r.status r.info r.data)) := by
  refine exec_write_eq h hg ?_ hr
  rw [writeMatch, hm]
  exact he

theorem exec_write_unmatched (h : TakesRequest s n p (.write a ws)) (hg : s.gate = .opened)
    (hm : matchEntry (s.currentOwner n) .ackedWrite a ws.length ws s = none)
    (he : writeNew n a ws s = (t, r)) (hr : r.trigger = false) :
    exec .write s = .next (answered t n (responseTo p r.status r.info r.data)) := by
  refine exec_write_eq h hg ?_ hr
  rw [writeMatch, hm]
  exact he

end

theorem DttEntry.sameRequest_iff {o : Owner} {kind : EntryKind} {a : Word} {w : Nat} {ws : List WriteWord}
    {e : DttEntry} :
    e.sameRequest o kind a w ws = true ↔
      e.owner = o ∧ e.kind = kind ∧ e.address = a ∧ e.words = w ∧ (kind = .read ∨ e.writeWords = ws) := by
  simp [DttEntry.sameRequest, and_assoc]

theorem DttEntry.matchable_iff {e : DttEntry} : e.matchable = true ↔ e.waits ∨ e.state = .ready := by
  simp [DttEntry.matchable, or_assoc]

/-- Two entries that are the same request as a third are the same request as one another. -/
theorem DttEntry.sameRequest_trans {o : Owner} {kind : EntryKind} {a : Word} {w : Nat} {ws : List WriteWord}
    {e f : DttEntry} (he : e.sameRequest o kind a w ws = true) (hf : f.sameRequest o kind a w ws = true) :
    f.sameRequest e.owner e.kind e.address e.words e.writeWords = true := by
  obtain ⟨rfl, rfl, rfl, rfl, hes⟩ := DttEntry.sameRequest_iff.1 he
  obtain ⟨hfo, hfk, hfa, hfw, hfs⟩ := DttEntry.sameRequest_iff.1 hf
  refine DttEntry.sameRequest_iff.2 ⟨hfo, hfk, hfa, hfw, ?_⟩
  rcases hes with hes | hes
  · exact .inl hes
  · exact hfs.imp_right fun hfs => hfs.trans hes.symm

/-- The table holds a request once (R47), so the match finds the entry that is the request. -/
theorem matchEntry_of_sameRequest {s : State} {i : EntryIndex} {o : Owner} {kind : EntryKind} {a : Word} {w : Nat}
    {ws : List WriteWord} (hd : NoDuplicateEntries s) (hst : s.dtt[i].waits ∨ s.dtt[i].state = .ready)
    (hr : s.dtt[i].sameRequest o kind a w ws = true) : matchEntry o kind a w ws s = some i := by
  have hm := DttEntry.matchable_iff.2 hst
  refine findFirst_eq_some.2 ⟨by rw [hm, hr]; rfl, fun j hj => Bool.eq_false_iff.2 fun h => ?_⟩
  rw [Bool.and_eq_true] at h
  have other := hd i j (ne_of_gt hj) hm h.1
  rw [DttEntry.sameRequest_trans hr h.2] at other
  contradiction

/-! ### Repeats (R28, R29, R49) -/

section
variable {s : State} {i : EntryIndex} {e : DttEntry} {o : Owner}

theorem repeatOf_waits (he : s.dtt[i] = e) (h : e.waits) : repeatOf o i s = (s, retry) := by
  refine if_neg fun hr => ?_
  rw [DttEntry.waits, ← he, hr] at h
  simp at h

/-- Collection: the entry is freed, and a stream-flagged READ with SUCCESS asks for a slot. -/
theorem repeatOf_ready (he : s.dtt[i] = e) (h : e.state = .ready) :
    repeatOf o i s =
      (if e.kind = .read ∧ e.outcome = .success ∧ e.streamFlag = true then
        allocateSlot o e.window e.segment e.address e.words (s.setEntry i DttEntry.cleared)
      else s.setEntry i DttEntry.cleared, e.answer) := by
  subst he
  rw [repeatOf, if_pos h]
  exact (apply_ite (fun t => (t, s.dtt[i].answer)) _ _ _).symm

theorem repeatOf_failed {f : FailReason} (he : s.dtt[i] = e) (h : e.state = .ready) (hf : e.outcome = .failed f) :
    repeatOf o i s = (s.setEntry i DttEntry.cleared, failed f) := by
  simp [repeatOf_ready he h, DttEntry.answer, hf]

theorem repeatOf_read (he : s.dtt[i] = e) (h : e.state = .ready) (hk : e.kind = .read) (hs : e.outcome = .success)
    (hn : e.streamFlag = false) :
    repeatOf o i s = (s.setEntry i DttEntry.cleared, { status := .complete, data := e.readData }) := by
  simp [repeatOf_ready he h, DttEntry.answer, hk, hs, hn]

theorem repeatOf_streamRead (he : s.dtt[i] = e) (h : e.state = .ready) (hk : e.kind = .read)
    (hs : e.outcome = .success) (hy : e.streamFlag = true) :
    repeatOf o i s =
      (allocateSlot o e.window e.segment e.address e.words (s.setEntry i DttEntry.cleared),
        { status := .complete, data := e.readData }) := by
  simp [repeatOf_ready he h, DttEntry.answer, hk, hs, hy]

theorem repeatOf_ackedWrite (he : s.dtt[i] = e) (h : e.state = .ready) (hk : e.kind = .ackedWrite)
    (hs : e.outcome = .success) : repeatOf o i s = (s.setEntry i DttEntry.cleared, complete) := by
  simp [repeatOf_ready he h, DttEntry.answer, hk, hs]

end

/-- A READY READ with SUCCESS holds all its words (R40). -/
theorem DttEntry.readData_length_of_dataOk {e : DttEntry} (ok : e.dataOk = true) (h : e.state = .ready)
    (hk : e.kind = .read) (hs : e.outcome = .success) : e.readData.length = e.words := by
  simpa [DttEntry.dataOk, h, hk, hs] using ok

/-- Settles O25: the entry that is the request is the one matched; it waits or is collected. -/
theorem repeatsWaitOrCollect : Obligations.RepeatsWaitOrCollect := by
  intro s n p a i hd hg e u
  refine ⟨fun w h hs hr => ?_, fun ws h hr => ?_⟩
  · obtain ⟨ho, hk, ha, hw, -⟩ := DttEntry.sameRequest_iff.1 hr
    have matched (hst : e.waits ∨ e.state = .ready) := matchEntry_of_sameRequest hd hst hr
    have entry : u.dtt[i] = e := by simp only [u, e, passStream_dtt]
    refine ⟨fun waits => ?_, fun ready => ⟨DttEntry.cleared, rfl, fun f failure => ?_, fun success unflagged => ?_,
      fun success flagged => ?_, fun success ht => ?_⟩⟩
    · exact exec_read_matched h hg hs (matched (.inl waits)) (repeatOf_waits entry waits) rfl
    · exact exec_read_matched h hg hs (matched (.inr ready)) (repeatOf_failed entry ready failure) rfl
    · exact exec_read_matched h hg hs (matched (.inr ready)) (repeatOf_read entry ready hk success unflagged) rfl
    · rw [ho, ← ha, ← hw]
      exact exec_read_matched h hg hs (matched (.inr ready)) (repeatOf_streamRead entry ready hk success flagged) rfl
    · obtain ⟨-, -, entries, -⟩ := ht
      exact (DttEntry.readData_length_of_dataOk (entries i) ready hk success).trans hw
  · obtain ⟨-, hk, -⟩ := DttEntry.sameRequest_iff.1 hr
    have matched (hst : e.waits ∨ e.state = .ready) := matchEntry_of_sameRequest hd hst hr
    refine ⟨fun waits => ?_, fun ready => ⟨DttEntry.cleared, rfl, fun f failure => ?_, fun success => ?_⟩⟩
    · exact exec_write_matched h hg (matched (.inl waits)) (repeatOf_waits rfl waits) rfl
    · exact exec_write_matched h hg (matched (.inr ready)) (repeatOf_failed rfl ready failure) rfl
    · exact exec_write_matched h hg (matched (.inr ready)) (repeatOf_ackedWrite rfl ready hk success) rfl

/-! ### The lookup, permission, mode and segment-state checks (R30 to R32) -/

section
variable {s : State} {n : LaneId} {x : Access} {a : Word} {k : WindowIndex}

theorem checkWindow_noWindow (hl : lookup s.live a = none) : checkWindow n x a s = .error (refused .noWindow) := by
  simp only [checkWindow, hl]

theorem checkWindow_denied (hl : lookup s.live a = some k) (hp : s.live[k].permits n x = false) :
    checkWindow n x a s = .error (refused .denied) := by
  simp only [checkWindow, hl, hp, Bool.not_false, if_true]

theorem checkWindow_mode {r : RefusedReason} (hl : lookup s.live a = some k) (hp : s.live[k].permits n x = true)
    (hm : s.live[k].modeRefusal x = some r) : checkWindow n x a s = .error (refused r) := by
  simp only [checkWindow, hl, hp, hm, Bool.not_true, Bool.false_eq_true, if_false]

theorem checkWindow_segmentDown (hl : lookup s.live a = some k) (hp : s.live[k].permits n x = true)
    (hm : s.live[k].modeRefusal x = none) (hf : (s.engine s.live[k].segment).state = .faulted) :
    checkWindow n x a s = .error (failed .segmentDown) := by
  simp only [checkWindow, hl, hp, hm, hf, Bool.not_true, Bool.false_eq_true, if_false, if_true]

theorem checkWindow_admitted (h : Admitted s n x a k) : checkWindow n x a s = .ok k := by
  obtain ⟨hl, hp, hm, hf⟩ := h
  simp only [checkWindow, hl, hp, hm, hf, Bool.not_true, Bool.false_eq_true, if_false]

end

theorem WindowRecord.modeRefusal_read_none {v : WindowRecord} (h : v.readMode = .none) :
    v.modeRefusal .read = some .notReadable := if_pos h

theorem WindowRecord.modeRefusal_read_eq_none {v : WindowRecord} (h : v.readMode ≠ .none) :
    v.modeRefusal .read = none := if_neg h

theorem WindowRecord.modeRefusal_write_none {v : WindowRecord} (h : v.writeMode = .none) :
    v.modeRefusal .write = some .notWritable := if_pos h

theorem WindowRecord.modeRefusal_write_eq_none {v : WindowRecord} (h : v.writeMode ≠ .none) :
    v.modeRefusal .write = none := if_neg h

section
variable {s : State} {n : LaneId} {p : Parcel} {a : Word} {w : Nat} {ws : List WriteWord} {r : Reply}

/-- A READ that a check answers changes nothing beyond the drop of R27. -/
theorem exec_read_checked (h : TakesRequest s n p (.read a w)) (hg : s.gate = .opened) (hs : NotServed n a s)
    (hm : matchEntry (s.currentOwner n) .read a w [] s = none) (hc : checkWindow n .read a s = .error r)
    (hr : r.trigger = false) :
    exec .read s = .next (answered (passStream n a s) n (responseTo p r.status r.info r.data)) := by
  refine exec_read_unmatched h hg hs hm ?_ hr
  rw [readNew, checkWindow_passStream, hc]

/-- A WRITE that a check answers changes nothing. -/
theorem exec_write_checked (h : TakesRequest s n p (.write a ws)) (hg : s.gate = .opened)
    (hm : matchEntry (s.currentOwner n) .ackedWrite a ws.length ws s = none)
    (hc : checkWindow n .write a s = .error r) (hr : r.trigger = false) :
    exec .write s = .next (answered s n (responseTo p r.status r.info r.data)) := by
  refine exec_write_unmatched h hg hm ?_ hr
  rw [writeNew, hc]

end

/-- Settles O27: each check answers when those before it have passed. -/
theorem checksRefuseInOrder : Obligations.ChecksRefuseInOrder := by
  intro s n p a hg
  refine ⟨fun w h hs hm => ?_, fun ws h hm => ?_⟩
  · refine ⟨fun hl => ?_, fun k hl => ⟨fun hp => ?_, fun hp mode => ?_, fun hp mode down => ?_⟩⟩
    · exact exec_read_checked h hg hs hm (checkWindow_noWindow hl) rfl
    · exact exec_read_checked h hg hs hm (checkWindow_denied hl hp) rfl
    · exact exec_read_checked h hg hs hm (checkWindow_mode hl hp (WindowRecord.modeRefusal_read_none mode)) rfl
    · exact exec_read_checked h hg hs hm (checkWindow_segmentDown hl hp
        (WindowRecord.modeRefusal_read_eq_none mode) down) rfl
  · refine ⟨fun hl => ?_, fun k hl => ⟨fun hp => ?_, fun hp mode => ?_, fun hp mode down => ?_⟩⟩
    · exact exec_write_checked h hg hm (checkWindow_noWindow hl) rfl
    · exact exec_write_checked h hg hm (checkWindow_denied hl hp) rfl
    · exact exec_write_checked h hg hm (checkWindow_mode hl hp (WindowRecord.modeRefusal_write_none mode)) rfl
    · exact exec_write_checked h hg hm (checkWindow_segmentDown hl hp
        (WindowRecord.modeRefusal_write_eq_none mode) down) rfl

/-! ### Deferred requests (R33, R42, R44) -/

section
variable {s u : State} {o : Owner} {kind : EntryKind} {a : Word} {w : Nat} {ws : List WriteWord} {k : WindowIndex}

/-- A creation in a state u that differs from s in the slots and their order alone, as after the drop of R27: the entry
is the one that s gives. -/
theorem createEntry_lowestFree {i : EntryIndex} (hu : u = { s with slots := u.slots, refillOrder := u.refillOrder })
    (hfree : s.dtt[i].state = .free) (hlow : ∀ j : EntryIndex, j < i → s.dtt[j].state ≠ .free)
    (hq : quotaCount o s < s.params.quota) :
    createEntry o kind a w ws k u = some { (closeTail s.live[k].segment u) with
      dtt := s.dtt.set i (newEntry o kind a w ws k s), creationCounter := s.creationCounter + 1 } := by
  have first : findFirst (fun e => decide (e.state = .free)) s.dtt = some i :=
    findFirst_eq_some.2 ⟨decide_eq_true hfree, fun j hj => decide_eq_false (hlow j hj)⟩
  obtain ⟨v, l, rfl⟩ : ∃ v l, u = { s with slots := v, refillOrder := l } := ⟨_, _, hu⟩
  simp only [createEntry, first]
  exact if_pos hq

/-- With no FREE entry, or with the owner at QUOTA, nothing is created (R42). -/
theorem createEntry_none (hu : u = { s with slots := u.slots, refillOrder := u.refillOrder })
    (h : (∀ i : EntryIndex, s.dtt[i].state ≠ .free) ∨ s.params.quota ≤ quotaCount o s) :
    createEntry o kind a w ws k u = none := by
  obtain ⟨v, l, rfl⟩ : ∃ v l, u = { s with slots := v, refillOrder := l } := ⟨_, _, hu⟩
  rcases createEntry_cases o kind a w ws k { s with slots := v, refillOrder := l } with
    ⟨nothing, -⟩ | ⟨i, hfree, -, hq, -⟩
  · exact nothing
  · rcases h with h | h
    · exact absurd hfree (h i)
    · exact absurd hq (Nat.not_lt.2 h)

end

section
variable {s t : State} {n : LaneId} {p : Parcel} {a : Word} {w : Nat} {ws : List WriteWord} {k : WindowIndex}

/-- An admitted READ is answered RETRY, whatever the creation does (R33). -/
theorem exec_read_admitted (h : TakesRequest s n p (.read a w)) (hg : s.gate = .opened) (hs : NotServed n a s)
    (hm : matchEntry (s.currentOwner n) .read a w [] s = none) (ha : Admitted s n .read a k)
    (hc : (createEntry (s.currentOwner n) .read a w [] k (passStream n a s)).getD (passStream n a s) = t) :
    exec .read s = .next (answered t n (responseTo p .retry 0 [])) := by
  refine exec_read_unmatched (r := retry) h hg hs hm ?_ rfl
  rw [readNew, checkWindow_passStream, checkWindow_admitted ha, passStream_currentOwner]
  exact congrArg (·, retry) hc

/-- An admitted WRITE to an ACKED window is answered RETRY, and a creation drops the window's slots (R34, R35). -/
theorem exec_write_admitted_acked (h : TakesRequest s n p (.write a ws)) (hg : s.gate = .opened)
    (hm : matchEntry (s.currentOwner n) .ackedWrite a ws.length ws s = none) (ha : Admitted s n .write a k)
    (hw : s.live[k].writeMode = .acked)
    (hc : ((createEntry (s.currentOwner n) .ackedWrite a ws.length ws k s).map (dropWindow k)).getD s = t) :
    exec .write s = .next (answered t n (responseTo p .retry 0 [])) := by
  refine exec_write_unmatched (r := retry) h hg hm ?_ rfl
  rw [← hc]
  simp only [writeNew, checkWindow_admitted ha, hw]
  cases createEntry (s.currentOwner n) .ackedWrite a ws.length ws k s <;> rfl

end

/-- Settles O28: the creation of R42 on the state that the stream check leaves. -/
theorem deferredRequestCreatesEntry : Obligations.DeferredRequestCreatesEntry := by
  intro s n p a k hg
  refine ⟨fun w h hs hm ha => ⟨fun i hfree hlow hq => ⟨DttEntry.cleared, ?_⟩, fun full => ?_⟩,
    fun ws h hm ha hw => ⟨fun i hfree hlow hq => ⟨DttEntry.cleared, ?_⟩, fun full => ?_⟩⟩
  · refine exec_read_admitted h hg hs hm ha ?_
    rw [createEntry_lowestFree (passStream_frame n a s) hfree hlow hq]
    rfl
  · refine exec_read_admitted h hg hs hm ha ?_
    rw [createEntry_none (passStream_frame n a s) full]
    rfl
  · refine exec_write_admitted_acked h hg hm ha hw ?_
    rw [createEntry_lowestFree rfl hfree hlow hq]
    rfl
  · refine exec_write_admitted_acked h hg hm ha hw ?_
    rw [createEntry_none rfl full]
    rfl

end Sys2Proof.Machine
end

section
/-! The posted write queues (chapter 4): the merge conditions, the closure of a full entry, the three answers of a
queue to a write (R72), and the statement about WRITEs to POSTED windows. -/

namespace Sys2Proof.Machine

/-! ### Merging and closure (R73, R74, R77) -/

theorem QueueEntry.merges_iff_mayMerge {s : State} {n : LaneId} {k : WindowIndex} {a : SegAddr} {ws : List WriteWord}
    {e : QueueEntry} : e.merges (s.currentOwner n) k s.live[k].merge a ws = true ↔ MayMerge s n k a ws e := by
  simp only [QueueEntry.merges, QueueEntry.closed, endsInBlockOf, Bool.and_eq_true, Bool.not_eq_true',
    Option.isNone_eq_false_iff, decide_eq_true_eq, and_assoc]
  rfl

theorem QueueEntry.merges_eq_false_iff {s : State} {n : LaneId} {k : WindowIndex} {a : SegAddr} {ws : List WriteWord}
    {e : QueueEntry} : e.merges (s.currentOwner n) k s.live[k].merge a ws = false ↔ ¬MayMerge s n k a ws e := by
  rw [← QueueEntry.merges_iff_mayMerge, Bool.not_eq_true]

theorem QueueEntry.full_eq_fills (e : QueueEntry) : e.full = fills e.segAddr e.writeWords.length := rfl

/-- A merge keeps every field of the tail but its words, and the close time goes when they fill it (R73). -/
theorem QueueEntry.append_eq (e : QueueEntry) (ws : List WriteWord) :
    e.append ws = { e with
      writeWords := e.writeWords ++ ws
      closeTime := if fills e.segAddr (e.writeWords.length + ws.length) = true then none else e.closeTime } := by
  rw [← List.length_append]
  by_cases filled : fills e.segAddr (e.writeWords ++ ws).length = true
  · rw [if_pos filled]
    exact if_pos filled
  · rw [if_neg filled]
    exact if_neg filled

/-- A new entry is open for MERGE-WINDOW, unless that is 0, its window does not merge, or its words fill it (R74). -/
theorem newQueueEntry_eq (s : State) (o : Owner) (k : WindowIndex) (a : SegAddr) (ws : List WriteWord) (b : Seq) :
    newQueueEntry s o k a ws b =
      { owner := o, window := k, segAddr := a, writeWords := ws, seq := b,
        closeTime :=
          if s.params.mergeWindow = 0 ∨ s.live[k].merge = false ∨ fills a ws.length = true then none
          else some (s.timebase + BitVec.ofNat 32 s.params.mergeWindow),
        progress := 0, backoff := 0 } := by
  unfold newQueueEntry
  simp only [QueueEntry.full_eq_fills, Bool.or_eq_true, decide_eq_true_eq, Bool.not_eq_true', or_assoc]
  split <;> rfl

/-! ### The three answers of a queue (R72) -/

section
variable {s : State} {n : LaneId} {k : WindowIndex} {a : SegAddr} {ws : List WriteWord} {g : Segment} {q : PostedQueue}

theorem acceptPosted_merged {e : QueueEntry} (hg : s.live[k].segment = g) (hq : s.queues.get g = q)
    (he : e ∈ q.tail) (h : MayMerge s n k a ws e) :
    acceptPosted (s.currentOwner n) k a ws s =
      some (s.setQueue g { q with entries := q.entries.dropLast ++ [e.append ws] }) := by
  subst hg hq
  rcases acceptPosted_cases (s.currentOwner n) k a ws s with ⟨f, hf, -, merged⟩ | ⟨apart, -⟩ | ⟨apart, -⟩
  · obtain rfl : f = e := Option.some.inj (hf.symm.trans he)
    exact merged
  all_goals exact absurd h (QueueEntry.merges_eq_false_iff.1 (apart e he))

/-- A write that does not merge: the number of entries decides. -/
theorem acceptPosted_of_not_mayMerge (hg : s.live[k].segment = g) (hq : s.queues.get g = q)
    (h : ∀ e ∈ q.tail, ¬MayMerge s n k a ws e) :
    acceptPosted (s.currentOwner n) k a ws s =
      if q.entries.length < 32 then
        some (s.setQueue g (q.push (newQueueEntry s (s.currentOwner n) k a ws (q.counter + 1))))
      else none := by
  subst hg hq
  rcases acceptPosted_cases (s.currentOwner n) k a ws s with ⟨f, hf, merges, -⟩ | ⟨-, room, pushed⟩ | ⟨-, full, nothing⟩
  · exact absurd (QueueEntry.merges_iff_mayMerge.1 merges) (h f hf)
  · rw [if_pos room, pushed]
  · rw [if_neg (Nat.not_lt.2 full), nothing]

end

/-! ### A WRITE to a POSTED window -/

section
variable {s t : State} {n : LaneId} {p : Parcel} {a : Word} {ws : List WriteWord} {k : WindowIndex}

/-- A write that its queue accepts is answered COMPLETE and drops the window's slots (R35). -/
theorem exec_write_posted_accepted (h : TakesRequest s n p (.write a ws)) (hg : s.gate = .opened)
    (hm : matchEntry (s.currentOwner n) .ackedWrite a ws.length ws s = none) (ha : Admitted s n .write a k)
    (hw : s.live[k].writeMode = .posted)
    (accepted : acceptPosted (s.currentOwner n) k (s.live[k].translate a) ws s = some t) :
    exec .write s = .next (answered (dropWindow k t) n (responseTo p .complete 0 [])) := by
  refine exec_write_unmatched (r := complete) h hg hm ?_ rfl
  simp only [writeNew, checkWindow_admitted ha, hw, accepted]

/-- A write that its queue does not take is answered RETRY and changes nothing (R72). -/
theorem exec_write_posted_full (h : TakesRequest s n p (.write a ws)) (hg : s.gate = .opened)
    (hm : matchEntry (s.currentOwner n) .ackedWrite a ws.length ws s = none) (ha : Admitted s n .write a k)
    (hw : s.live[k].writeMode = .posted)
    (full : acceptPosted (s.currentOwner n) k (s.live[k].translate a) ws s = none) :
    exec .write s = .next (answered s n (responseTo p .retry 0 [])) := by
  refine exec_write_unmatched (r := retry) h hg hm ?_ rfl
  simp only [writeNew, checkWindow_admitted ha, hw, full]

end

/-- Settles O29: the merge conditions are tested first, then the capacity of the queue. -/
theorem postedWriteMergesOrQueues : Obligations.PostedWriteMergesOrQueues := by
  intro s n p a ws k hg h hm ha hw g q sa entry
  refine ⟨fun e he merges => ?_, fun apart room => ?_, fun apart full => ?_⟩
  · refine exec_write_posted_accepted h hg hm ha hw ?_
    rw [acceptPosted_merged rfl rfl he merges, QueueEntry.append_eq]
  · refine exec_write_posted_accepted h hg hm ha hw ?_
    rw [acceptPosted_of_not_mayMerge rfl rfl apart, if_pos room, newQueueEntry_eq]
    rfl
  · refine exec_write_posted_full h hg hm ha hw ?_
    rw [acceptPosted_of_not_mayMerge rfl rfl apart, if_neg (Nat.not_lt.2 full)]

end Sys2Proof.Machine
end

section
/-! FENCE and DRAIN (chapter 5): the barriers that a new record takes, what FENCE makes of a fence record and DRAIN of
the drain record, and the statements about their answers. -/

namespace Sys2Proof.Machine

/-! ### The barriers of a record (R90, R91) -/

theorem BarrierPair.allMet_eq_true_iff {r : BarrierPair} : r.allMet = true ↔ r.a.met = true ∧ r.b.met = true :=
  Bool.and_eq_true_iff

theorem BarrierPair.allMet_eq_false_iff {r : BarrierPair} : r.allMet = false ↔ r.a.met = false ∨ r.b.met = false :=
  Bool.and_eq_false_iff

/-- The barrier of a fence record names the last of the owner's entries, which is its newest (R90). -/
theorem PostedQueue.ownerBarrier_eq (q : PostedQueue) (o : Owner) :
    q.ownerBarrier o =
      match (q.entries.filter fun e => e.owner = o).getLast? with
      | some e => Barrier.on e.seq
      | none => Barrier.none := by
  rw [List.getLast?_filter]
  rfl

theorem PostedQueue.outstanding_eq_false_iff {q : PostedQueue} {o : Owner} :
    q.outstanding o = false ↔ (q.entries.filter fun e => e.owner = o) = [] := by
  rw [PostedQueue.outstanding, List.any_eq_false, List.filter_eq_nil_iff]

theorem PostedQueue.outstanding_eq_true_iff {q : PostedQueue} {o : Owner} :
    q.outstanding o = true ↔ (q.entries.filter fun e => e.owner = o) ≠ [] := by
  rw [← Bool.not_eq_false, Ne, PostedQueue.outstanding_eq_false_iff]

/-- The closure of both tails, queue by queue (R77). -/
theorem closeTails_eq (s : State) :
    closeTails s = { s with queues := { a := s.queues.a.closeTail, b := s.queues.b.closeTail } } := rfl

/-! ### FENCE past the gate (R94, R95) -/

section
variable {s : State} {n : LaneId} {r : BarrierPair}

theorem fenceAnswer_completes (hf : s.fences[n] = none) (ha : s.queues.a.outstanding (s.currentOwner n) = false)
    (hb : s.queues.b.outstanding (s.currentOwner n) = false) : fenceAnswer n s = completeFence n s := by
  simp only [fenceAnswer, hf, ha, hb, Bool.or_self, Bool.false_eq_true, if_false]

theorem fenceAnswer_records (hf : s.fences[n] = none)
    (h : s.queues.a.outstanding (s.currentOwner n) = true ∨ s.queues.b.outstanding (s.currentOwner n) = true) :
    fenceAnswer n s = ({ s with
      fences := s.fences.set n (some (fenceRecord (s.currentOwner n) s))
      queues := { a := s.queues.a.closeTail, b := s.queues.b.closeTail } }, retry) := by
  simp only [fenceAnswer, hf, Bool.or_eq_true, if_pos h, closeTails_eq, State.setFence]

theorem fenceAnswer_met (hf : s.fences[n] = some r) (h : r.allMet = true) : fenceAnswer n s = completeFence n s := by
  simp only [fenceAnswer, hf, h, if_true]

theorem fenceAnswer_unmet (hf : s.fences[n] = some r) (h : r.allMet = false) : fenceAnswer n s = (s, retry) := by
  simp only [fenceAnswer, hf, h, Bool.false_eq_true, if_false]

end

theorem fenceAnswer_ignoresTaking (n : LaneId) : IgnoresTaking n (fenceAnswer n) := by
  intro s
  unfold fenceAnswer
  rw [beginTaking_fences, beginTaking_currentOwner, beginTaking_queues]
  cases s.fences[n] with
  | some r =>
    dsimp only
    by_cases met : r.allMet = true
    · simp only [if_pos met]
      rfl
    · simp only [if_neg met]
  | none =>
    dsimp only
    by_cases own :
        (s.queues.a.outstanding (s.currentOwner n) || s.queues.b.outstanding (s.currentOwner n)) = true
    · simp only [if_pos own]
      rfl
    · simp only [if_neg own]
      rfl

/-- FENCE: the answer of the fence unit on the state before the taking (R94). -/
theorem exec_fence_eq {s t : State} {n : LaneId} {p : Parcel} {r : Reply} (h : TakesRequest s n p .fence)
    (hg : s.gate = .opened) (he : fenceAnswer n s = (t, r)) (hr : r.trigger = false) :
    exec .fence s = .next (answered t n (responseTo p r.status r.info r.data)) :=
  congrArg Host.Outcome.next <|
    takeParcel_gated h.1 (by rw [h.2]) hg (fenceAnswer_ignoresTaking n) he hr

/-- Settles O30: by the lane's record and, without one, by the owner's entries in the two queues. -/
theorem fenceAnswers : Obligations.FenceAnswers := by
  intro s n p hg h own barrier done
  refine ⟨fun hf ha hb => ?_, fun hf outstanding => ?_, fun r hf ha hb => ?_, fun r hf unmet => ?_⟩
  · exact exec_fence_eq h hg (fenceAnswer_completes hf (PostedQueue.outstanding_eq_false_iff.2 ha)
      (PostedQueue.outstanding_eq_false_iff.2 hb)) rfl
  · have record : fenceRecord (s.currentOwner n) s = { a := barrier s.queues.a, b := barrier s.queues.b } := by
      rw [fenceRecord, PostedQueue.ownerBarrier_eq, PostedQueue.ownerBarrier_eq]
      rfl
    rw [← record]
    exact exec_fence_eq h hg (fenceAnswer_records hf (outstanding.imp PostedQueue.outstanding_eq_true_iff.2
      PostedQueue.outstanding_eq_true_iff.2)) rfl
  · exact exec_fence_eq h hg (fenceAnswer_met hf (BarrierPair.allMet_eq_true_iff.2 ⟨ha, hb⟩)) rfl
  · exact exec_fence_eq h hg (fenceAnswer_unmet hf (BarrierPair.allMet_eq_false_iff.2 unmet)) rfl

/-! ### DRAIN from the manager (R100) -/

section
variable {s : State} {n : LaneId} {args : List Word} {r : BarrierPair}

theorem drainEffect_empty (hd : s.drain = none) (ha : s.queues.a.entries = []) (hb : s.queues.b.entries = []) :
    drainEffect n args s = some (s, complete) := by
  simp only [drainEffect, hd, ha, hb, List.isEmpty_nil, Bool.and_self, if_true]

theorem drainEffect_records (hd : s.drain = none) (h : s.queues.a.entries ≠ [] ∨ s.queues.b.entries ≠ []) :
    drainEffect n args s = some ({ s with
      drain := some (drainRecord s)
      queues := { a := s.queues.a.closeTail, b := s.queues.b.closeTail } }, retry) := by
  have occupied : ¬(s.queues.a.entries.isEmpty && s.queues.b.entries.isEmpty) = true := by
    rwa [Bool.and_eq_true, List.isEmpty_iff, List.isEmpty_iff, not_and_or]
  simp only [drainEffect, hd, if_neg occupied, closeTails_eq]

theorem drainEffect_met (hd : s.drain = some r) (h : r.allMet = true) :
    drainEffect n args s = some ({ s with drain := none }, complete) := by
  simp only [drainEffect, hd, h, if_true]

theorem drainEffect_unmet (hd : s.drain = some r) (h : r.allMet = false) :
    drainEffect n args s = some (s, retry) := by
  simp only [drainEffect, hd, h, Bool.false_eq_true, if_false]

end

/-- DRAIN from the manager, without argument words: the answer is placed on what the drain makes of the state before
the taking. -/
theorem exec_drain {s v w : State} {n : LaneId} {p : Parcel} {r : Reply} (hm : s.manager = some n)
    (h : TakesMgmt s n p .drain []) (he : drainEffect n [] (beginTaking n s) = some (w, r)) (hr : r.trigger = false)
    (hl : v.lanes = s.lanes) (hw : w = { v with lanes := (beginTaking n s).lanes, lastGranted := n }) :
    exec .drain s = .next (answered v n (responseTo p r.status r.info r.data)) :=
  congrArg Host.Outcome.next <| takeMgmt_accepted h (if_pos hm) rfl he hr hl hw

/-- Settles O31: after the refusals, by the drain record and, without one, by the entries of the two queues. -/
theorem drainAnswers : Obligations.DrainAnswers := by
  intro s n p args h
  refine ⟨refusedFirst_of_takeMgmt rfl (by decide) (by decide) h, ?_⟩
  rintro hm rfl barrier
  refine ⟨fun hd ha hb => ?_, fun hd occupied => ?_, fun r hd ha hb => ?_, fun r hd unmet => ?_⟩
  · exact exec_drain hm h (drainEffect_empty hd ha hb) rfl rfl rfl
  · have record : drainRecord s = { a := barrier s.queues.a, b := barrier s.queues.b } := rfl
    rw [← record]
    exact exec_drain hm h (drainEffect_records hd occupied) rfl rfl rfl
  · exact exec_drain hm h (drainEffect_met hd (BarrierPair.allMet_eq_true_iff.2 ⟨ha, hb⟩)) rfl rfl rfl
  · exact exec_drain hm h (drainEffect_unmet hd (BarrierPair.allMet_eq_false_iff.2 unmet)) rfl rfl rfl

end Sys2Proof.Machine
end

section
/-! The segment engines (chapter 7): what a segment fault makes of the queue, of every holder of a barrier, of the
entries and of the slots, and the statements about the fault, SEGMENT ENABLE and SEGMENT DISABLE. -/

namespace Sys2Proof.Machine

/-! ### The barriers met while entries leave a queue one after another (R91) -/

/-- The barrier after the entries have left its queue in order. -/
def Barrier.meetAll (es : List QueueEntry) (x : Barrier) : Barrier := es.foldl (fun y e => y.meet e.seq) x

/-- A DTT entry after the entries have left queue g. -/
def DttEntry.meetAll (g : Segment) (es : List QueueEntry) (e : DttEntry) : DttEntry :=
  if e.segment = g then { e with barrier := e.barrier.meetAll es } else e

/-- A pending refill after the entries have left its queue. -/
def PendingRefill.meetAll (es : List QueueEntry) (r : PendingRefill) : PendingRefill :=
  { r with barrier := r.barrier.meetAll es }

/-- A slot after the entries have left the queue of its segment. -/
def StreamSlot.refillMet (es : List QueueEntry) (x : StreamSlot) : StreamSlot :=
  { x with refill := x.refill.map (PendingRefill.meetAll es) }

/-- A slot after the entries have left queue g. -/
def StreamSlot.meetAll (g : Segment) (es : List QueueEntry) (x : StreamSlot) : StreamSlot :=
  if x.segment = g then x.refillMet es else x

/-- A fence or drain record after the entries have left queue g. -/
def BarrierPair.meetAll (g : Segment) (es : List QueueEntry) (r : BarrierPair) : BarrierPair :=
  PerSegment.set r g ((PerSegment.get r g).meetAll es)

theorem DttEntry.meetAll_meet (g : Segment) (d : QueueEntry) (es : List QueueEntry) (e : DttEntry) :
    (e.meet g d.seq).meetAll g es = e.meetAll g (d :: es) := by
  by_cases h : e.segment = g
  · simp only [DttEntry.meet, DttEntry.meetAll, if_pos h]
    rfl
  · simp only [DttEntry.meet, DttEntry.meetAll, if_neg h]

theorem StreamSlot.meetAll_meet (g : Segment) (d : QueueEntry) (es : List QueueEntry) (x : StreamSlot) :
    (x.meet g d.seq).meetAll g es = x.meetAll g (d :: es) := by
  by_cases h : x.segment = g
  · simp only [StreamSlot.meet, StreamSlot.meetAll, StreamSlot.refillMet, if_pos h, Option.map_map]
    rfl
  · simp only [StreamSlot.meet, StreamSlot.meetAll, if_neg h]

theorem BarrierPair.meetAll_meet (g : Segment) (d : QueueEntry) (es : List QueueEntry) (r : BarrierPair) :
    (r.meet g d.seq).meetAll g es = r.meetAll g (d :: es) := by
  simp only [BarrierPair.meet, BarrierPair.meetAll, PerSegment.get_set_self, PerSegment.set_set]
  rfl

theorem DttEntry.meetAll_nil (g : Segment) (e : DttEntry) : e.meetAll g [] = e := ite_self e

theorem StreamSlot.meetAll_nil (g : Segment) (x : StreamSlot) : x.meetAll g [] = x := by
  have kept : x.refill.map (PendingRefill.meetAll []) = x.refill := by
    cases x.refill <;> rfl
  rw [StreamSlot.meetAll, StreamSlot.refillMet, kept]
  exact ite_self x

theorem BarrierPair.meetAll_nil (g : Segment) (r : BarrierPair) : r.meetAll g [] = r := PerSegment.set_get_self r g

/-- Discarded entries make of every holder of a barrier what their leaving makes of it one by one; of the rest they
change the failed-write counts alone (R91, R102). -/
theorem discardEntries_eq (g : Segment) (es : List QueueEntry) (s : State) :
    discardEntries g es s = { s with
      dtt := mapAll (DttEntry.meetAll g es) s.dtt
      slots := mapAll (StreamSlot.meetAll g es) s.slots
      fences := mapAll (Option.map (BarrierPair.meetAll g es)) s.fences
      drain := s.drain.map (BarrierPair.meetAll g es)
      failedWrites := (discardEntries g es s).failedWrites } := by
  induction es generalizing s with
  | nil =>
    have records : BarrierPair.meetAll g [] = id := funext (BarrierPair.meetAll_nil g)
    rw [mapAll_of_id _ _ fun i => DttEntry.meetAll_nil g s.dtt[i],
      mapAll_of_id _ _ fun i => StreamSlot.meetAll_nil g s.slots[i], records, Option.map_id,
      mapAll_of_id _ _ fun _ => rfl]
    rfl
  | cons d es ih =>
    have entries := funext (DttEntry.meetAll_meet g d es)
    have slots := funext (StreamSlot.meetAll_meet g d es)
    have records := funext (BarrierPair.meetAll_meet g d es)
    rw [discardEntries_cons, ih, countFailedWrite_frame, ← entries, ← slots, ← records]
    simp only [meetBarriers, mapAll_mapAll, Option.map_map, Function.comp_def]

/-! ### What a discard makes of a barrier's holder (R91, R144) -/

theorem Barrier.afterDiscard_meetAll (q : PostedQueue) (x : Barrier) : x.AfterDiscard q (x.meetAll q.entries) :=
  x.afterDiscard_foldl q

/-- The record y is what a discard of every entry of queue q of segment g makes of the record x. -/
abbrev BarrierPair.AfterDiscard (g : Segment) (q : PostedQueue) (x y : BarrierPair) : Prop :=
  (PerSegment.get x g).AfterDiscard q (PerSegment.get y g) ∧
    ∀ h : Segment, h ≠ g → PerSegment.get y h = PerSegment.get x h

theorem BarrierPair.afterDiscard_meetAll (g : Segment) (q : PostedQueue) (x : BarrierPair) :
    x.AfterDiscard g q (x.meetAll g q.entries) := by
  refine ⟨?_, fun h hne => PerSegment.get_set_ne x _ hne⟩
  rw [BarrierPair.meetAll, PerSegment.get_set_self]
  exact Barrier.afterDiscard_meetAll q _

/-- A fence or drain record stands after a discard if it stood before, with its barriers on that queue met. -/
theorem record_afterDiscard (g : Segment) (q : PostedQueue) (o : Option BarrierPair) :
    (o.map (BarrierPair.meetAll g q.entries)).isSome = o.isSome ∧
      ∀ x ∈ o, ∀ y ∈ o.map (BarrierPair.meetAll g q.entries), x.AfterDiscard g q y := by
  refine ⟨Option.isSome_map, ?_⟩
  rintro x rfl y hy
  obtain rfl := Option.some.inj hy
  exact x.afterDiscard_meetAll g q

/-! ### The failed-write counts (R102) -/

/-- One entry counts toward the lane of its owner while the owner is present, up to 255. -/
theorem countFailedWrite_count (o : Owner) (s : State) (n : LaneId) (h : s.failedWrites[n] ≤ 255) :
    (countFailedWrite o s).failedWrites[n] =
      min (s.failedWrites[n] + (if (o.lane = n && s.present o) = true then 1 else 0)) 255 := by
  have present : s.present o = true ↔ s.lanes[o.lane].state = .up ∧ s.lanes[o.lane].epoch = o.epoch := by
    simp [State.present]
  rcases countFailedWrite_cases o s with ⟨up, epoch, he⟩ | ⟨absent, he⟩
  · have hp := present.2 ⟨up, epoch⟩
    rw [he, hp, table_set]
    by_cases hn : o.lane = n
    · subst hn
      simp
    · simpa [hn] using h
  · have hp := Bool.eq_false_iff.2 fun hp => absent (present.1 hp)
    rw [he, hp]
    simpa using h

/-- The discarded entries of a lane's present owner count toward it, up to 255. -/
theorem discardEntries_count (g : Segment) (es : List QueueEntry) (s : State) (n : LaneId)
    (h : s.failedWrites[n] ≤ 255) :
    (discardEntries g es s).failedWrites[n] =
      min (s.failedWrites[n] + es.countP fun e => e.owner.lane = n && s.present e.owner) 255 := by
  induction es generalizing s with
  | nil => simpa using h
  | cons d es ih =>
    have step := countFailedWrite_count d.owner (meetBarriers g d.seq s) n h
    have present (o : Owner) : (countFailedWrite d.owner (meetBarriers g d.seq s)).present o = s.present o := by
      simp only [State.present, countFailedWrite_lanes, meetBarriers_lanes]
    have still : (countFailedWrite d.owner (meetBarriers g d.seq s)).failedWrites[n] ≤ 255 := by
      rw [step]
      exact Nat.min_le_right _ _
    rw [discardEntries_cons, ih _ still, step, List.countP_cons]
    simp only [present]
    have same : (meetBarriers g d.seq s).present d.owner = s.present d.owner := rfl
    rw [same, meetBarriers_failedWrites]
    omega

/-! ### The entries and the slots of the segment (R60, R118, R144) -/

/-- What a fault of segment g makes of a DTT entry: its barrier is met by the discards, and it becomes READY with
SEGMENT-DOWN when it waits on the segment. -/
def DttEntry.fault (s : State) (g : Segment) (es : List QueueEntry) (e : DttEntry) : DttEntry :=
  if e.segment = g ∧ (e.state = .queued ∨ e.state = .partly) then
    (e.meetAll g es).makeReady s (.failed .segmentDown)
  else e.meetAll g es

/-- What a fault of segment g makes of a slot: its refill's barrier is met by the discards, and it is dropped when it is
on the segment. -/
def StreamSlot.fault (g : Segment) (es : List QueueEntry) (x : StreamSlot) : StreamSlot :=
  if x.segment = g then (x.meetAll g es).drop else x

theorem DttEntry.meetAll_segment (g : Segment) (es : List QueueEntry) (e : DttEntry) :
    (e.meetAll g es).segment = e.segment := by
  unfold DttEntry.meetAll
  split <;> rfl

theorem DttEntry.meetAll_state (g : Segment) (es : List QueueEntry) (e : DttEntry) :
    (e.meetAll g es).state = e.state := by
  unfold DttEntry.meetAll
  split <;> rfl

theorem StreamSlot.meetAll_segment (g : Segment) (es : List QueueEntry) (x : StreamSlot) :
    (x.meetAll g es).segment = x.segment := by
  unfold StreamSlot.meetAll
  split <;> rfl

/-- A fault, field by field. -/
theorem faultSegment_eq (g : Segment) (f : FailReason) (s : State) :
    let q := s.queues.get g
    let v := mapAll (StreamSlot.fault g q.entries) s.slots
    (faultSegment g f s).1 = { s with
      dtt := mapAll (DttEntry.fault s g q.entries) s.dtt
      queues := s.queues.set g { q with entries := [], retired := q.counter }
      fences := mapAll (Option.map (BarrierPair.meetAll g q.entries)) s.fences
      drain := s.drain.map (BarrierPair.meetAll g q.entries)
      failedWrites := (discardEntries g q.entries s).failedWrites
      slots := v
      refillOrder := keptOrder v s.refillOrder
      engines := s.engines.set g { s.engine g with state := .faulted } } := by
  intro q v
  have slots : mapAll (fun x : StreamSlot => if x.segment = g then x.drop else x)
      (mapAll (StreamSlot.meetAll g q.entries) s.slots) = v := by
    rw [mapAll_mapAll]
    refine congrArg (mapAll · s.slots) (funext fun x => ?_)
    rw [StreamSlot.meetAll_segment, StreamSlot.fault]
    split
    · rfl
    · exact if_neg ‹_›
  have entries : mapAll (fun e : DttEntry => if e.segment = g ∧ (e.state = .queued ∨ e.state = .partly) then
      e.makeReady s (.failed .segmentDown) else e) (mapAll (DttEntry.meetAll g q.entries) s.dtt) =
      mapAll (DttEntry.fault s g q.entries) s.dtt := by
    simp only [mapAll_mapAll, DttEntry.meetAll_segment, DttEntry.meetAll_state]
    rfl
  unfold faultSegment
  dsimp only
  rw [discardQueue_eq, discardEntries_eq, ← slots, ← entries]
  simp only [faultEntries, dropSlots, State.setSlots, State.setQueue, State.setEngine, State.engine, decide_eq_true_eq]
  rfl

/-- A fault of a segment leaves the entries of the other one. -/
theorem DttEntry.fault_of_ne {s : State} {g : Segment} {es : List QueueEntry} {e : DttEntry} (h : e.segment ≠ g) :
    e.fault s g es = e := by
  rw [DttEntry.fault, if_neg fun hc => h hc.1, DttEntry.meetAll, if_neg h]

section
variable {s : State} {g : Segment} {es : List QueueEntry} {e : DttEntry}

/-- A waiting entry of the segment becomes READY with SEGMENT-DOWN and its discard timer starts (R60). -/
theorem DttEntry.fault_of_waits (h : e.segment = g) (hw : e.state = .queued ∨ e.state = .partly) :
    e.fault s g es = { e with
      state := .ready
      outcome := .failed .segmentDown
      readData := []
      expiry := s.timebase + BitVec.ofNat 32 s.params.discardTime
      barrier := e.barrier.meetAll es } := by
  rw [DttEntry.fault, if_pos ⟨h, hw⟩, DttEntry.meetAll, if_pos h]
  rfl

/-- Any other entry of the segment has its barrier met by the discards and is otherwise as it was. -/
theorem DttEntry.fault_of_not_waits (h : e.segment = g) (hq : e.state ≠ .queued) (hp : e.state ≠ .partly) :
    e.fault s g es = { e with barrier := e.barrier.meetAll es } := by
  rw [DttEntry.fault, if_neg fun hc => hc.2.elim hq hp, DttEntry.meetAll, if_pos h]

theorem DttEntry.fault_barrier (h : e.segment = g) : (e.fault s g es).barrier = e.barrier.meetAll es := by
  by_cases hw : e.state = .queued ∨ e.state = .partly
  · rw [DttEntry.fault_of_waits h hw]
  · obtain ⟨hq, hp⟩ := not_or.1 hw
    rw [DttEntry.fault_of_not_waits h hq hp]

end

/-! ### The drop of a slot, state by state (R118) -/

theorem StreamSlot.drop_of_empty {x : StreamSlot} (h : x.state = .empty) : x.drop = x := by
  simp [StreamSlot.drop, h]

theorem StreamSlot.drop_of_holding {x : StreamSlot} (h : x.state = .holding) : x.drop = StreamSlot.cleared := by
  simp [StreamSlot.drop, h]

theorem StreamSlot.drop_of_filling_idle {x : StreamSlot} (h : x.state = .filling) (hc : x.inCycle = false) :
    x.drop = StreamSlot.cleared := by
  simp [StreamSlot.drop, h, hc]

theorem StreamSlot.drop_of_filling_inCycle {x : StreamSlot} (h : x.state = .filling) (hc : x.inCycle = true) :
    x.drop = { x with state := .retiring, held := [] } := by
  simp [StreamSlot.drop, h, hc]

theorem StreamSlot.drop_of_retiring {x : StreamSlot} (h : x.state = .retiring) : x.drop = x := by
  simp [StreamSlot.drop, h]

/-- A drop withdraws the pending refill or leaves it as it is. -/
theorem StreamSlot.drop_refill_mem {x : StreamSlot} {r : PendingRefill} (h : r ∈ x.drop.refill) : r ∈ x.refill := by
  rcases x.drop_cases with ⟨he, -⟩ | ⟨he, -⟩ | ⟨he, -⟩
  · rwa [he] at h
  · rw [he] at h
    exact absurd h (Option.not_mem_none r)
  · rwa [he] at h

theorem StreamSlot.refill_isSome_of_inCycle {x : StreamSlot} (h : x.inCycle = true) : x.refill.isSome = true := by
  unfold StreamSlot.inCycle at h
  cases hr : x.refill with
  | some r => rfl
  | none => simp [hr] at h

/-! ### The slots of a faulted segment (R144) -/

/-- A fault of a segment leaves the slots of the other one. -/
theorem StreamSlot.fault_of_ne {g : Segment} {es : List QueueEntry} {x : StreamSlot} (h : x.segment ≠ g) :
    x.fault g es = x := if_neg h

theorem StreamSlot.refillMet_inCycle (es : List QueueEntry) (x : StreamSlot) :
    (x.refillMet es).inCycle = x.inCycle := by
  unfold StreamSlot.inCycle StreamSlot.refillMet
  cases x.refill <;> rfl

theorem StreamSlot.refillMet_isSome (es : List QueueEntry) (x : StreamSlot) :
    (x.refillMet es).refill.isSome = x.refill.isSome := Option.isSome_map

section
variable {g : Segment} {es : List QueueEntry} {x : StreamSlot}

/-- A slot of the faulted segment is dropped (R118, R144). -/
theorem StreamSlot.fault_of_segment (h : x.segment = g) : x.fault g es = (x.refillMet es).drop := by
  rw [StreamSlot.fault, if_pos h, StreamSlot.meetAll, if_pos h]

theorem StreamSlot.fault_of_filling_inCycle (h : x.segment = g) (hs : x.state = .filling) (hc : x.inCycle = true) :
    x.fault g es = { x.refillMet es with state := .retiring, held := [] } := by
  rw [StreamSlot.fault_of_segment h,
    StreamSlot.drop_of_filling_inCycle (x := x.refillMet es) hs (by rw [StreamSlot.refillMet_inCycle, hc])]

theorem StreamSlot.fault_of_filling_idle (h : x.segment = g) (hs : x.state = .filling) (hc : x.inCycle = false) :
    x.fault g es = StreamSlot.cleared := by
  rw [StreamSlot.fault_of_segment h,
    StreamSlot.drop_of_filling_idle (x := x.refillMet es) hs (by rw [StreamSlot.refillMet_inCycle, hc])]

theorem StreamSlot.fault_of_holding (h : x.segment = g) (hs : x.state = .holding) :
    x.fault g es = StreamSlot.cleared := by
  rw [StreamSlot.fault_of_segment h, StreamSlot.drop_of_holding (x := x.refillMet es) hs]

theorem StreamSlot.fault_of_empty (h : x.segment = g) (hs : x.state = .empty) : x.fault g es = x.refillMet es := by
  rw [StreamSlot.fault_of_segment h, StreamSlot.drop_of_empty (x := x.refillMet es) hs]

theorem StreamSlot.fault_of_retiring (h : x.segment = g) (hs : x.state = .retiring) :
    x.fault g es = x.refillMet es := by
  rw [StreamSlot.fault_of_segment h, StreamSlot.drop_of_retiring (x := x.refillMet es) hs]

/-- A refill still pending after a fault was pending before, with its barrier met by the discards and nothing else
changed (R91, R144). -/
theorem StreamSlot.fault_refill {y : PendingRefill} (h : x.segment = g) (hy : y ∈ (x.fault g es).refill) :
    ∃ r ∈ x.refill, y = r.meetAll es := by
  rw [StreamSlot.fault_of_segment h] at hy
  obtain ⟨r, hr, rfl⟩ := Option.map_eq_some_iff.1 (StreamSlot.drop_refill_mem hy)
  exact ⟨r, hr, rfl⟩

end

/-! ### The statement of the fault (R144) -/

/-- The records of a fault, in their order (R144, R153). -/
theorem faultSegment_records (g : Segment) (f : FailReason) (s : State) :
    (faultSegment g f s).2 =
      (if (s.queues.get g).entries = [] then []
        else [writesDropped g (s.queues.get g).entries.length .segmentFault]) ++
      [segmentFaulted g f (s.engine g).failures] := by
  simp only [faultSegment, discardQueue, List.isEmpty_iff]

/-- Settles O55: the fault field by field, and then each lane, record, entry and slot by what the fault makes of it. -/
theorem segmentFaultEffects : Obligations.SegmentFaultEffects := by
  intro s g f ok q u pairMet
  obtain ⟨counts, -, -, -⟩ := ok
  have fault : u = _ := faultSegment_eq g f s
  have dtt (i : EntryIndex) : u.dtt[i] = s.dtt[i].fault s g q.entries := by
    rw [fault, mapAll_table]
  have slots (i : SlotIndex) : u.slots[i] = s.slots[i].fault g q.entries := by
    rw [fault, mapAll_table]
  refine ⟨faultSegment_records g f s, by rw [fault], fun m => ?_, fun n => ?_, ?_, fun i => ?_, fun i => ?_⟩
  · rw [fault]
    exact discardEntries_count g q.entries s m (counts m)
  · have fences : u.fences[n] = s.fences[n].map (BarrierPair.meetAll g q.entries) := by
      rw [fault, mapAll_table]
    rw [fences]
    exact record_afterDiscard g q s.fences[n]
  · rw [fault]
    exact record_afterDiscard g q s.drain
  · rw [dtt]
    refine ⟨fun hg hw => ?_, fun hg hq hp => ?_, fun hg => ?_, DttEntry.fault_of_ne⟩
    · rw [DttEntry.fault_of_waits hg hw]
    · rw [DttEntry.fault_of_not_waits hg hq hp]
    · rw [DttEntry.fault_barrier hg]
      exact Barrier.afterDiscard_meetAll q _
  · rw [slots]
    refine ⟨StreamSlot.fault_of_ne, fun hg => ⟨fun hs => ?_, fun hs => ?_, fun hs hc => ?_, fun hs hc => ?_,
      fun hs => ?_, fun y hy => ?_⟩⟩
    · rw [StreamSlot.fault_of_empty hg hs]
      exact hs
    · rw [StreamSlot.fault_of_holding hg hs]
      exact ⟨rfl, rfl⟩
    · rw [StreamSlot.fault_of_filling_idle hg hs hc]
      exact ⟨rfl, rfl⟩
    · rw [StreamSlot.fault_of_filling_inCycle hg hs hc]
      exact ⟨(StreamSlot.refillMet_isSome q.entries _).trans (StreamSlot.refill_isSome_of_inCycle hc), rfl⟩
    · rw [StreamSlot.fault_of_retiring hg hs]
      exact ⟨StreamSlot.refillMet_isSome q.entries _, rfl⟩
    · obtain ⟨r, hr, rfl⟩ := StreamSlot.fault_refill hg hy
      exact ⟨r, hr, rfl, Barrier.afterDiscard_meetAll q r.barrier⟩

/-! ### SEGMENT ENABLE and SEGMENT DISABLE (R146, R147) -/

theorem segmentArg_of_code {w : Word} {g : Segment} (h : w.toNat = segmentCode g) : segmentArg [w] = some g := by
  rw [segmentArg, h, segmentOfCode_segmentCode]

theorem segmentArg_eq_none {w : Word} (h : 2 ≤ w.toNat) : segmentArg [w] = none := by
  rcases segmentOfCode_cases w.toNat with ⟨hle, -⟩ | ⟨-, hn⟩
  · omega
  · exact hn

/-- SEGMENT ENABLE leaves an ENABLED engine as it is. -/
theorem Engine.enable_of_enabled {e : Engine} (h : e.state = .enabled) : e.enable = e := by
  simp [Engine.enable, h]

/-- SEGMENT ENABLE makes a DISABLED or FAULTED engine ENABLED with count 0. -/
theorem Engine.enable_of_not_enabled {e : Engine} (h : e.state ≠ .enabled) :
    e.enable = { e with state := .enabled, failures := 0 } := by
  unfold Engine.enable
  split
  · exact absurd ‹_› h
  all_goals rfl

section
variable {s : State} {n : LaneId} {p : Parcel} {w : Word} {g : Segment}

/-- SEGMENT ENABLE from the manager with a code that names a segment. -/
theorem exec_segmentEnable (hm : s.manager = some n) (hw : w.toNat = segmentCode g)
    (h : TakesMgmt s n p .segmentEnable [w]) :
    exec .segmentEnable s =
      .next (answered (s.setEngine g (s.engine g).enable) n (responseTo p .complete 0 [])) := by
  have effect : segmentEnableEffect n [w] (beginTaking n s) =
      some ((beginTaking n s).setEngine g (s.engine g).enable, complete) := by
    rw [segmentEnableEffect, segmentArg_of_code hw]
    rfl
  exact congrArg Host.Outcome.next <| takeMgmt_accepted h (if_pos hm) rfl effect rfl rfl rfl

/-- SEGMENT DISABLE from the manager with a code that names a segment. -/
theorem exec_segmentDisable (hm : s.manager = some n) (hw : w.toNat = segmentCode g)
    (h : TakesMgmt s n p .segmentDisable [w]) :
    exec .segmentDisable s =
      .next (answered (s.setEngine g { s.engine g with state := .disabled }) n (responseTo p .complete 0 [])) := by
  have effect : segmentDisableEffect n [w] (beginTaking n s) =
      some ((beginTaking n s).setEngine g { s.engine g with state := .disabled }, complete) := by
    rw [segmentDisableEffect, segmentArg_of_code hw]
    rfl
  exact congrArg Host.Outcome.next <| takeMgmt_accepted h (if_pos hm) rfl effect rfl rfl rfl

theorem segmentEnableEffect_refuses (h : 2 ≤ w.toNat) : segmentEnableEffect n [w] s = none := by
  rw [segmentEnableEffect, segmentArg_eq_none h]

theorem segmentDisableEffect_refuses (h : 2 ≤ w.toNat) : segmentDisableEffect n [w] s = none := by
  rw [segmentDisableEffect, segmentArg_eq_none h]

end

/-- Settles O43: by the segment that the argument names and, for SEGMENT ENABLE, by that segment's state. -/
theorem segmentEnableAndDisable : Obligations.SegmentEnableAndDisable := by
  intro s n p
  refine ⟨fun args h => refusedFirst_of_takeMgmt rfl (by decide) (by decide) h,
    fun args h => refusedFirst_of_takeMgmt rfl (by decide) (by decide) h,
    fun w hm => ⟨fun g hw => ⟨fun h hs => ?_, fun h hs => ?_, fun h => ?_⟩, fun bad => ⟨fun h => ?_, fun h => ?_⟩⟩⟩
  · rw [exec_segmentEnable hm hw h, Engine.enable_of_not_enabled hs]
    rfl
  · have same : s.setEngine g (s.engine g) = s := by
      rw [State.setEngine, State.engine_eq, PerSegment.set_get_self]
    rw [exec_segmentEnable hm hw h, Engine.enable_of_enabled hs, same]
  · exact exec_segmentDisable hm hw h
  · exact congrArg Host.Outcome.next <| takeMgmt_badArgument h (if_pos hm) fun _ => segmentEnableEffect_refuses bad
  · exact congrArg Host.Outcome.next <| takeMgmt_badArgument h (if_pos hm) fun _ => segmentDisableEffect_refuses bad

end Sys2Proof.Machine
end

section
/-! LOG TAKE (chapter 8): the answer of a management operation that is an ALERT trigger, what LOG TAKE leaves of the
log and when it is a trigger, and the statement about it. -/

namespace Sys2Proof.Machine

/-- An operation that passes the checks and is an ALERT trigger: the trigger follows the answer, which is placed on what
the effect leaves of the state before the taking (R159). -/
theorem takeMgmt_triggers {op : MgmtOp} {effect : LaneId → List Word → State → Option (State × Reply)} {s v w : State}
    {n : LaneId} {p : Parcel} {args : List Word} {r : Reply} (h : TakesMgmt s n p op args)
    (hr : roleRefusal op n s.manager = none) (hc : args.length = op.argCount)
    (he : effect n args (beginTaking n s) = some (w, r)) (ht : r.trigger = true) (hl : v.lanes = s.lanes)
    (hw : w = { v with lanes := (beginTaking n s).lanes, lastGranted := n }) :
    takeMgmt op effect s = alertTrigger (answered v n (responseTo p r.status r.info r.data)) := by
  have hm : manage op effect n args (beginTaking n s) = (w, r) := by
    simp [manage, hr, hc, he]
  rw [takeMgmt_taken h, hm, respond_answered hl hw, if_pos ht]
  rfl

/-- The log after a LOG TAKE (R157). -/
def ExceptionLog.taken (l : ExceptionLog) : ExceptionLog :=
  { records := l.records.drop 4, counter := l.counter, lost := 0, alertOutstanding := false }

/-- The answer to a LOG TAKE of the log (R157). -/
def ExceptionLog.takeReply (l : ExceptionLog) : Reply :=
  { status := .complete
    info := BitVec.ofNat 16 l.lost
    data := (l.records.take 4).flatMap LogRecord.toWords
    trigger := !l.taken.records.isEmpty }

theorem logTakeEffect_eq (n : LaneId) (args : List Word) (s : State) :
    logTakeEffect n args s = some ({ s with log := s.log.taken }, s.log.takeReply) := rfl

/-- A LOG TAKE is a trigger exactly when more records stood in the log than it removes (R157, R159). -/
theorem ExceptionLog.takeReply_trigger_iff {l : ExceptionLog} :
    l.takeReply.trigger = true ↔ 4 < l.records.length := by
  have left : l.takeReply.trigger = !(l.records.drop 4).isEmpty := rfl
  rw [left, Bool.not_eq_true', List.isEmpty_eq_false_iff, Ne, List.drop_eq_nil_iff, Nat.not_le]

/-- Settles O42: after the refusals, by whether the log holds more records than one LOG TAKE removes. -/
theorem logTakeRemovesFour : Obligations.LogTakeRemovesFour := by
  intro s n p args h
  refine ⟨refusedFirst_of_takeMgmt rfl (by decide) (by decide) h, ?_⟩
  rintro hm rfl u
  have effect := logTakeEffect_eq n [] (beginTaking n s)
  refine ⟨fun few => ?_, fun more => ?_⟩
  · have silent : s.log.takeReply.trigger = false :=
      Bool.eq_false_iff.2 fun ht => Nat.not_lt.2 few (ExceptionLog.takeReply_trigger_iff.1 ht)
    exact congrArg Host.Outcome.next <|
      takeMgmt_accepted (v := { s with log := s.log.taken }) h (if_pos hm) rfl effect silent rfl rfl
  · exact congrArg Host.Outcome.next <| takeMgmt_triggers (v := { s with log := s.log.taken }) h (if_pos hm) rfl
      effect (ExceptionLog.takeReply_trigger_iff.2 more) rfl rfl

end Sys2Proof.Machine
end

section
/-! The role and the parameters (chapter 9): the answer of a management operation that passes the checks, the role check
of CLAIM, the parameters by number, and the statements about CLAIM, RELEASE, GET PARAMETER and SET PARAMETER. -/

namespace Sys2Proof.Machine

/-! ### An operation that passes the checks (R159, R164) -/

/-- The answer is placed on what the effect leaves of the state before the taking, and the trigger follows if the
operation was one. -/
theorem takeMgmt_answers {op : MgmtOp} {effect : LaneId → List Word → State → Option (State × Reply)} {s v w : State}
    {n : LaneId} {p : Parcel} {args : List Word} {r : Reply} (h : TakesMgmt s n p op args)
    (hr : roleRefusal op n s.manager = none) (hc : args.length = op.argCount)
    (he : effect n args (beginTaking n s) = some (w, r)) (hl : v.lanes = s.lanes)
    (hw : w = { v with lanes := (beginTaking n s).lanes, lastGranted := n }) :
    takeMgmt op effect s =
      if r.trigger = true then alertTrigger (answered v n (responseTo p r.status r.info r.data))
      else answered v n (responseTo p r.status r.info r.data) := by
  split
  · exact takeMgmt_triggers h hr hc he ‹_› hl hw
  · exact takeMgmt_accepted h hr hc he (Bool.eq_false_iff.2 ‹_›) hl hw

/-! ### The role (R166, R168, R169) -/

/-- CLAIM passes the role check while no other lane holds the role (R168). -/
theorem roleRefusal_claim_of_available {n : LaneId} {m : Option LaneId} (h : m = none ∨ m = some n) :
    roleRefusal .claim n m = none := by
  rcases h with rfl | rfl
  · rfl
  · exact if_pos rfl

/-- CLAIM is refused with the number of another lane that holds the role (R168). -/
theorem roleRefusal_claim_of_held {n m : LaneId} (h : m ≠ n) :
    roleRefusal .claim n (some m) = some { refused .notManager with info := BitVec.ofNat 16 m.val } := if_neg h

/-- Argument words to an operation that takes none are a wrong number of them. -/
theorem length_ne_argCount {op : MgmtOp} {args : List Word} (h0 : op.argCount = 0) (h : args ≠ []) :
    args.length ≠ op.argCount := by
  rw [h0]
  exact fun hl => h (List.length_eq_zero_iff.1 hl)

/-- Settles O34: by the lane that holds the role. -/
theorem claimTable : Obligations.ClaimTable := by
  intro s n p args h
  refine ⟨fun free hargs => ?_, fun free hargs => ?_, fun m other held => ?_⟩
  · subst hargs
    exact congrArg Host.Outcome.next <| takeMgmt_accepted (v := { s with manager := some n }) (r := complete) h
      (roleRefusal_claim_of_available free) rfl rfl rfl rfl rfl
  · exact congrArg Host.Outcome.next <| takeMgmt_badArgument h (roleRefusal_claim_of_available free)
      fun hl => absurd hl (length_ne_argCount rfl hargs)
  · have role : roleRefusal .claim n s.manager = _ := held ▸ roleRefusal_claim_of_held other
    exact congrArg Host.Outcome.next <| takeMgmt_refused_role h role rfl

/-- Settles O35: the refusals of R164, and the end of the role. -/
theorem releaseEndsRole : Obligations.ReleaseEndsRole := by
  intro s n p args h
  obtain ⟨notManager, wrongCount⟩ :=
    refusedFirst_of_takeMgmt (op := .release) (effect := releaseEffect) rfl (by decide) (by decide) h
  refine ⟨?_, fun hm hargs => wrongCount hm (length_ne_argCount rfl hargs), notManager⟩
  rintro hm rfl
  exact congrArg Host.Outcome.next <| takeMgmt_accepted (v := endRole s) (r := complete) h (if_pos hm) rfl rfl rfl rfl
    rfl

/-! ### The parameters by number (R174) -/

/-- The value of a parameter is the item of the ten values at its number, and no other number has one. -/
theorem Parameters.value_eq (p : Parameters) : ∀ k : Nat, p.value k = p.values[k]?
  | 0 | 1 | 2 | 3 | 4 | 5 | 6 | 7 | 8 | 9 => rfl
  | _ + 10 => rfl

/-- A number below ten names a parameter and its range: SET PARAMETER accepts exactly the values in it. -/
theorem parameterOk_iff {k v lo hi : Nat} (h : parameterRanges[k]? = some (lo, hi)) :
    ParameterOk k v ↔ lo ≤ v ∧ v ≤ hi := by
  simp [ParameterOk, h]

theorem not_parameterOk (k v : Nat) : ¬ParameterOk (k + 10) v := by
  rintro ⟨r, hr, -⟩
  exact absurd hr (Option.not_mem_none r)

/-- One row of the table of R174: a test of the value against the row's range, and one field replaced. -/
theorem Parameters.update_cases_of_row {p q : Parameters} {k v lo hi : Nat} {c : Prop} [Decidable c]
    (row : parameterRanges[k]? = some (lo, hi)) (test : c ↔ lo ≤ v ∧ v ≤ hi)
    (update : p.update k v = if c then some q else none) (values : c → q.values = p.values.set k v) :
    (ParameterOk k v ∧ ∃ q, p.update k v = some q ∧ q.values = p.values.set k v) ∨
      (¬ParameterOk k v ∧ p.update k v = none) := by
  rw [parameterOk_iff row, ← test, update]
  by_cases h : c
  · exact .inl ⟨h, q, if_pos h, values h⟩
  · exact .inr ⟨h, if_neg h⟩

/-- SET PARAMETER replaces the numbered value by an accepted one, or is refused (R174, R175). -/
theorem Parameters.update_cases (p : Parameters) (k v : Nat) :
    (ParameterOk k v ∧ ∃ q, p.update k v = some q ∧ q.values = p.values.set k v) ∨
      (¬ParameterOk k v ∧ p.update k v = none) := by
  match k with
  | 0 | 1 | 3 | 4 | 5 | 6 => exact update_cases_of_row rfl Iff.rfl rfl fun _ => rfl
  | 2 | 7 | 8 => exact update_cases_of_row rfl (by omega) rfl fun _ => rfl
  | 9 =>
    refine update_cases_of_row rfl (by omega) rfl fun h => ?_
    obtain rfl | rfl := Nat.le_one_iff_eq_zero_or_eq_one.1 h <;> rfl
  | k + 10 => exact .inr ⟨not_parameterOk k v, rfl⟩

/-! ### GET PARAMETER and SET PARAMETER (R175, R176) -/

/-- Parameters replaced without a change of ALERTS from on to off leave the log. -/
theorem setParams_of_not_turned_off {q : Parameters} {s : State} (h : s.params.alerts = false ∨ q.alerts = true) :
    setParams q s = { s with params := q } := by
  rcases h with h | h <;> simp [setParams, h]

/-- A change of ALERTS from on to off clears alert outstanding (R158). -/
theorem setParams_of_turned_off {q : Parameters} {s : State} (hs : s.params.alerts = true) (hq : q.alerts = false) :
    setParams q s = { s with params := q, log := { s.log with alertOutstanding := false } } := by
  simp [setParams, hs, hq]

section
variable {s : State} {n : LaneId} {p : Parcel} {k v : Word}

/-- GET PARAMETER from the manager with a number that names a parameter. -/
theorem exec_getParameter {x : Nat} (hm : s.manager = some n) (h : TakesMgmt s n p .getParameter [k])
    (hx : s.params.value k.toNat = some x) :
    exec .getParameter s = .next (answered s n (responseTo p .complete 0 [BitVec.ofNat 32 x])) := by
  have effect : getParameterEffect n [k] (beginTaking n s) =
      some (beginTaking n s, { status := .complete, data := [BitVec.ofNat 32 x] }) := by
    rw [getParameterEffect, beginTaking_params, hx]
  exact congrArg Host.Outcome.next <| takeMgmt_accepted h (if_pos hm) rfl effect rfl rfl rfl

/-- GET PARAMETER from the manager with any other number. -/
theorem exec_getParameter_refused (hm : s.manager = some n) (h : TakesMgmt s n p .getParameter [k])
    (hx : s.params.value k.toNat = none) :
    exec .getParameter s = .next (answered s n (responseTo p (.refused .badArgument) 0 [])) := by
  have effect : getParameterEffect n [k] (beginTaking n s) = none := by
    rw [getParameterEffect, beginTaking_params, hx]
  exact congrArg Host.Outcome.next <| takeMgmt_badArgument h (if_pos hm) fun _ => effect

/-- SET PARAMETER from the manager with an accepted value: the trigger follows when it turns ALERTS on and the log
holds a record (R159). -/
theorem exec_setParameter {q : Parameters} (hm : s.manager = some n) (h : TakesMgmt s n p .setParameter [k, v])
    (hq : s.params.update k.toNat v.toNat = some q) :
    exec .setParameter s = .next (
      if (!s.params.alerts && q.alerts && !s.log.records.isEmpty) = true then
        alertTrigger (answered (setParams q s) n (responseTo p .complete 0 []))
      else answered (setParams q s) n (responseTo p .complete 0 [])) := by
  have effect : setParameterEffect n [k, v] (beginTaking n s) = some (setParams q (beginTaking n s),
      { complete with trigger := !s.params.alerts && q.alerts && !s.log.records.isEmpty }) := by
    rw [setParameterEffect, beginTaking_params, hq]
    rfl
  exact congrArg Host.Outcome.next <| takeMgmt_answers (v := setParams q s) h (if_pos hm) rfl effect rfl rfl

/-- SET PARAMETER from the manager with a number or a value that it does not accept. -/
theorem exec_setParameter_refused (hm : s.manager = some n) (h : TakesMgmt s n p .setParameter [k, v])
    (hq : s.params.update k.toNat v.toNat = none) :
    exec .setParameter s = .next (answered s n (responseTo p (.refused .badArgument) 0 [])) := by
  have effect : setParameterEffect n [k, v] (beginTaking n s) = none := by
    rw [setParameterEffect, beginTaking_params, hq]
  exact congrArg Host.Outcome.next <| takeMgmt_badArgument h (if_pos hm) fun _ => effect

end

/-- Settles O40: by the row that the number names, and for an accepted value by what it makes of ALERTS. -/
theorem parametersReadAndSet : Obligations.ParametersReadAndSet := by
  intro s n p
  refine ⟨fun args h => refusedFirst_of_takeMgmt rfl (by decide) (by decide) h,
    fun args h => refusedFirst_of_takeMgmt rfl (by decide) (by decide) h,
    fun hm => ⟨fun k h => ⟨fun v hv => ?_, fun hk => ?_⟩, fun k v h => ⟨fun ok => ?_, fun bad => ?_⟩⟩⟩
  · exact exec_getParameter hm h ((s.params.value_eq _).trans hv)
  · exact exec_getParameter_refused hm h ((s.params.value_eq _).trans (List.getElem?_eq_none hk))
  · obtain ⟨q, hq, values⟩ := ((s.params.update_cases k.toNat v.toNat).resolve_right fun c => c.1 ok).2
    have answer := exec_setParameter hm h hq
    refine ⟨q, values, fun same => ?_, fun off on empty => ?_, fun off on records => ?_, fun on off => ?_⟩
    · have kept : s.params.alerts = false ∨ q.alerts = true := by
        rw [same]
        exact (Bool.eq_false_or_eq_true _).symm
      rw [answer, setParams_of_not_turned_off kept]
      simp [same]
    · rw [answer, setParams_of_not_turned_off (.inl off)]
      simp [empty]
    · rw [answer, setParams_of_not_turned_off (.inl off)]
      simp [off, on, records]
    · rw [answer, setParams_of_turned_off on off]
      simp [off]
  · exact exec_setParameter_refused hm h
      ((s.params.update_cases k.toNat v.toNat).resolve_left fun c => bad c.1).2

end Sys2Proof.Machine
end

section
/-! GET STATUS (chapter 9): the bits of a word made of fields that lie apart, the fields of the six words of the status
result, and the statement about them. -/

namespace Sys2Proof.Machine

/-! ### A word made of fields (10.8) -/

/-- The bits of two fields do not meet. -/
abbrev Packed.Apart (f g : Packed) : Prop := f.hi < g.lo ∨ g.hi < f.lo

/-- The bit that a field has at a place of its word; none outside the field. -/
def Packed.bitAt (f : Packed) (i : Nat) : Bool := decide (f.lo ≤ i ∧ i ≤ f.hi) && f.value.testBit (i - f.lo)

/-- The word that holds one field alone. -/
def Packed.word (f : Packed) : Word := BitVec.ofNat 32 (f.value % 2 ^ (f.hi + 1 - f.lo) * 2 ^ f.lo)

theorem pack_cons (f : Packed) (fs : List Packed) : pack (f :: fs) = f.word + pack fs := BitVec.ofNat_add ..

theorem Packed.bitAt_of_inside {f : Packed} {i : Nat} (hlo : f.lo ≤ i) (hhi : i ≤ f.hi) :
    f.bitAt i = f.value.testBit (i - f.lo) := by
  simp [Packed.bitAt, hlo, hhi]

theorem Packed.inside_of_bitAt {f : Packed} {i : Nat} (h : f.bitAt i = true) : f.lo ≤ i ∧ i ≤ f.hi := by
  rw [Packed.bitAt, Bool.and_eq_true, decide_eq_true_eq] at h
  exact h.1

/-- At a place inside one field no field that lies apart from it has a bit. -/
theorem Packed.bitAt_of_apart {f g : Packed} {i : Nat} (apart : f.Apart g) (inside : f.lo ≤ i ∧ i ≤ f.hi) :
    g.bitAt i = false := by
  have outside : ¬(g.lo ≤ i ∧ i ≤ g.hi) := by omega
  simp [Packed.bitAt, outside]

theorem Packed.word_getLsbD {f : Packed} {i : Nat} (hi : i < 32) : f.word.getLsbD i = f.bitAt i := by
  simp only [Packed.word, Packed.bitAt, BitVec.getLsbD_ofNat, Nat.testBit_mul_two_pow, Nat.testBit_mod_two_pow,
    hi, decide_true, Bool.true_and, Bool.decide_and, Bool.and_assoc]
  by_cases hlo : f.lo ≤ i
  · have inside : i - f.lo < f.hi + 1 - f.lo ↔ i ≤ f.hi := by omega
    simp only [inside]
  · simp [hlo]

/-- The fields of a word lie apart and inside it. -/
abbrev Layout (fs : List Packed) : Prop := fs.Pairwise Packed.Apart ∧ ∀ f ∈ fs, f.hi < 32

/-- A bit of a word made of fields that lie apart is a bit of one of them. -/
theorem pack_getLsbD {fs : List Packed} (apart : fs.Pairwise Packed.Apart) {i : Nat} (hi : i < 32) :
    (pack fs).getLsbD i = fs.any fun f => f.bitAt i := by
  induction fs generalizing i with
  | nil => simp [pack, packNat]
  | cons f fs ih =>
    obtain ⟨head, tail⟩ := List.pairwise_cons.1 apart
    have disjoint : f.word &&& pack fs = 0#32 := by
      refine BitVec.eq_of_getLsbD_eq fun j hj => ?_
      rw [BitVec.getLsbD_and, Packed.word_getLsbD hj, ih tail hj, BitVec.getLsbD_zero, Bool.and_eq_false_imp]
      exact fun hf => List.any_eq_false.2 fun g hg =>
        Bool.eq_false_iff.1 (Packed.bitAt_of_apart (head g hg) (Packed.inside_of_bitAt hf))
    rw [pack_cons, BitVec.add_eq_or_of_and_eq_zero _ _ disjoint, BitVec.getLsbD_or, Packed.word_getLsbD hi,
      ih tail hi, List.any_cons]

section
variable {fs : List Packed} {f : Packed}

/-- The bits of a word at one of its fields are the bits of the field's value. -/
theorem pack_getLsbD_of_mem (ok : Layout fs) (hf : f ∈ fs) {i : Nat} (hlo : f.lo ≤ i) (hhi : i ≤ f.hi) :
    (pack fs).getLsbD i = f.value.testBit (i - f.lo) := by
  obtain ⟨apart, inside⟩ := ok
  rw [pack_getLsbD apart (Nat.lt_of_le_of_lt hhi (inside f hf)), ← Packed.bitAt_of_inside hlo hhi]
  cases hb : f.bitAt i with
  | true => exact List.any_eq_true.2 ⟨f, hf, hb⟩
  | false =>
    have symmetric : Std.Symm Packed.Apart := ⟨fun _ _ => Or.symm⟩
    refine List.any_eq_false.2 fun g hg hgb => Bool.eq_false_iff.1 hb ?_
    by_cases same : f = g
    · rwa [same]
    · exact absurd hgb (Bool.eq_false_iff.1 (Packed.bitAt_of_apart (apart.forall hf hg same) ⟨hlo, hhi⟩))

/-- A field read back is its value, when that fits. -/
theorem pack_field (ok : Layout fs) (hf : f ∈ fs) (fits : f.value < 2 ^ (f.hi + 1 - f.lo)) :
    ((pack fs).extractLsb' f.lo (f.hi + 1 - f.lo)).toNat = f.value := by
  refine Nat.eq_of_testBit_eq fun j => ?_
  rw [BitVec.testBit_toNat, BitVec.getLsbD_extractLsb']
  by_cases hj : j < f.hi + 1 - f.lo
  · rw [pack_getLsbD_of_mem ok hf (by omega) (by omega), Nat.add_sub_cancel_left]
    simp [hj]
  · have wide : 2 ^ (f.hi + 1 - f.lo) ≤ 2 ^ j := Nat.pow_le_pow_right (by decide) (Nat.not_lt.1 hj)
    rw [Nat.testBit_lt_two_pow (Nat.lt_of_lt_of_le fits wide)]
    simp [hj]

/-- A flag read back is its value. -/
theorem pack_flag {k : Nat} {b : Bool} (ok : Layout fs) (hf : ⟨k, k, bit b⟩ ∈ fs) : (pack fs).getLsbD k = b := by
  rw [pack_getLsbD_of_mem ok hf (Nat.le_refl k) (Nat.le_refl k)]
  cases b <;> simp [bit]

end

/-! ### The lane states as a number (R198) -/

/-- One flag for each lane, at the lane's own place. -/
def State.laneFlags (s : State) : List Packed :=
  (List.finRange 15).map fun m : LaneId => ⟨m.val, m.val, bit (s.lanes[m].state = .up)⟩

/-- Flags at places of their own add up to the powers of two of those that are set. -/
theorem packNat_flags {n : Nat} (p : Fin n → Bool) (l : List (Fin n)) :
    packNat (l.map fun m => ⟨m.val, m.val, bit (p m)⟩) = (l.map fun m => if p m then 2 ^ m.val else 0).sum := by
  induction l with
  | nil => rfl
  | cons m l ih =>
    rw [List.map_cons, packNat, ih, List.map_cons, List.sum_cons]
    cases p m <;> simp [bit]

theorem State.laneFlags_layout (s : State) : Layout s.laneFlags := by
  refine ⟨List.pairwise_map.2 ((List.pairwise_lt_finRange 15).imp Or.inl), fun f hf => ?_⟩
  obtain ⟨m, -, rfl⟩ := List.mem_map.1 hf
  exact Nat.lt_trans m.isLt (by decide)

/-- Bit m of the number is 1 when lane m is UP. -/
theorem State.lanesUp_testBit (s : State) (m : LaneId) : s.lanesUp.testBit m.val = decide (s.lanes[m].state = .up) := by
  have packed : packNat s.laneFlags = s.lanesUp := by
    simp only [State.laneFlags, packNat_flags, State.lanesUp, decide_eq_true_eq]
  have flag := pack_flag s.laneFlags_layout (List.mem_map.2 ⟨m, List.mem_finRange m, rfl⟩)
  have inside : m.val < 32 := Nat.lt_trans m.isLt (by decide)
  rwa [pack, packed, BitVec.getLsbD_ofNat, decide_eq_true inside, Bool.true_and] at flag

/-! ### The words of the status result (R198) -/

/-- Word 0: the generation, the gate and the manager. -/
theorem statusWord_role (g : BitVec 16) (opened : Bool) {m : Nat} (hm : m < 16) :
    let d := pack [⟨31, 16, g.toNat⟩, ⟨8, 8, bit opened⟩, ⟨3, 0, m⟩]
    d.extractLsb' 16 16 = g ∧ d.getLsbD 8 = opened ∧ (d.extractLsb' 0 4).toNat = m := by
  have ok : Layout [⟨31, 16, g.toNat⟩, ⟨8, 8, bit opened⟩, ⟨3, 0, m⟩] := by simp [Layout, Packed.Apart]
  exact ⟨BitVec.eq_of_toNat_eq (pack_field (f := ⟨31, 16, g.toNat⟩) ok (by simp) g.isLt), pack_flag ok (by simp),
    pack_field (f := ⟨3, 0, m⟩) ok (by simp) hm⟩

/-- Word 1: how many entries are in each state. -/
theorem statusWord_entries {c0 c1 c2 c3 c4 c5 : Nat} (h0 : c0 < 32) (h1 : c1 < 32) (h2 : c2 < 32) (h3 : c3 < 32)
    (h4 : c4 < 32) (h5 : c5 < 32) :
    let d := pack [⟨4, 0, c0⟩, ⟨9, 5, c1⟩, ⟨14, 10, c2⟩, ⟨19, 15, c3⟩, ⟨24, 20, c4⟩, ⟨29, 25, c5⟩]
    (d.extractLsb' 0 5).toNat = c0 ∧ (d.extractLsb' 5 5).toNat = c1 ∧ (d.extractLsb' 10 5).toNat = c2 ∧
      (d.extractLsb' 15 5).toNat = c3 ∧ (d.extractLsb' 20 5).toNat = c4 ∧ (d.extractLsb' 25 5).toNat = c5 := by
  have ok : Layout [⟨4, 0, c0⟩, ⟨9, 5, c1⟩, ⟨14, 10, c2⟩, ⟨19, 15, c3⟩, ⟨24, 20, c4⟩, ⟨29, 25, c5⟩] := by
    simp [Layout, Packed.Apart]
  exact ⟨pack_field (f := ⟨4, 0, c0⟩) ok (by simp) h0, pack_field (f := ⟨9, 5, c1⟩) ok (by simp) h1,
    pack_field (f := ⟨14, 10, c2⟩) ok (by simp) h2, pack_field (f := ⟨19, 15, c3⟩) ok (by simp) h3,
    pack_field (f := ⟨24, 20, c4⟩) ok (by simp) h4, pack_field (f := ⟨29, 25, c5⟩) ok (by simp) h5⟩

/-- Word 2: alert outstanding, the slot states, the segment states and the queues' occupancies. -/
theorem statusWord_blocks (alert : Bool) {x : SlotIndex → Nat} {eb ea qb qa : Nat} (hx : ∀ i, x i < 4)
    (heb : eb < 4) (hea : ea < 4) (hqb : qb < 64) (hqa : qa < 64) :
    let d := pack [⟨31, 31, bit alert⟩, ⟨21, 20, x 0⟩, ⟨23, 22, x 1⟩, ⟨25, 24, x 2⟩, ⟨27, 26, x 3⟩, ⟨19, 18, eb⟩,
      ⟨17, 16, ea⟩, ⟨13, 8, qb⟩, ⟨5, 0, qa⟩]
    d.getLsbD 31 = alert ∧ (∀ i : SlotIndex, (d.extractLsb' (20 + 2 * i.val) 2).toNat = x i) ∧
      (d.extractLsb' 18 2).toNat = eb ∧ (d.extractLsb' 16 2).toNat = ea ∧
      (d.extractLsb' 8 6).toNat = qb ∧ (d.extractLsb' 0 6).toNat = qa := by
  have ok : Layout [⟨31, 31, bit alert⟩, ⟨21, 20, x 0⟩, ⟨23, 22, x 1⟩, ⟨25, 24, x 2⟩, ⟨27, 26, x 3⟩, ⟨19, 18, eb⟩,
      ⟨17, 16, ea⟩, ⟨13, 8, qb⟩, ⟨5, 0, qa⟩] := by
    simp [Layout, Packed.Apart]
  refine ⟨pack_flag ok (by simp), fun i => ?_, pack_field (f := ⟨19, 18, eb⟩) ok (by simp) heb,
    pack_field (f := ⟨17, 16, ea⟩) ok (by simp) hea, pack_field (f := ⟨13, 8, qb⟩) ok (by simp) hqb,
    pack_field (f := ⟨5, 0, qa⟩) ok (by simp) hqa⟩
  match i with
  | 0 => exact pack_field (f := ⟨21, 20, x 0⟩) ok (by simp) (hx 0)
  | 1 => exact pack_field (f := ⟨23, 22, x 1⟩) ok (by simp) (hx 1)
  | 2 => exact pack_field (f := ⟨25, 24, x 2⟩) ok (by simp) (hx 2)
  | 3 => exact pack_field (f := ⟨27, 26, x 3⟩) ok (by simp) (hx 3)

/-- Word 3: the records of the log and the consecutive-failure counts. -/
theorem statusWord_counts {r fb fa : Nat} (hr : r < 128) (hb : fb < 256) (ha : fa < 256) :
    let d := pack [⟨22, 16, r⟩, ⟨15, 8, fb⟩, ⟨7, 0, fa⟩]
    (d.extractLsb' 16 7).toNat = r ∧ (d.extractLsb' 8 8).toNat = fb ∧ (d.extractLsb' 0 8).toNat = fa := by
  have ok : Layout [⟨22, 16, r⟩, ⟨15, 8, fb⟩, ⟨7, 0, fa⟩] := by simp [Layout, Packed.Apart]
  exact ⟨pack_field (f := ⟨22, 16, r⟩) ok (by simp) hr, pack_field (f := ⟨15, 8, fb⟩) ok (by simp) hb,
    pack_field (f := ⟨7, 0, fa⟩) ok (by simp) ha⟩

/-- Word 4: the lost count and the lane states. -/
theorem statusWord_lanes (s : State) {lost : Nat} (hl : lost < 65536) :
    let d := pack [⟨31, 16, lost⟩, ⟨14, 0, s.lanesUp⟩]
    (d.extractLsb' 16 16).toNat = lost ∧ ∀ m : LaneId, d.getLsbD m.val = decide (s.lanes[m].state = .up) := by
  have ok : Layout [⟨31, 16, lost⟩, ⟨14, 0, s.lanesUp⟩] := by simp [Layout, Packed.Apart]
  refine ⟨pack_field (f := ⟨31, 16, lost⟩) ok (by simp) hl, fun m => ?_⟩
  rw [pack_getLsbD_of_mem (f := ⟨14, 0, s.lanesUp⟩) ok (by simp) (Nat.zero_le _) (Nat.le_of_lt_succ m.isLt)]
  exact s.lanesUp_testBit m

theorem SlotState.code_lt (x : SlotState) : x.code < 4 := by
  cases x <;> decide

theorem SegmentState.code_lt (x : SegmentState) : x.code < 4 := by
  cases x <;> decide

theorem State.entriesIn_le (s : State) (x : EntryState) : s.entriesIn x ≤ 16 := by
  have bound : s.entriesIn x ≤ s.dtt.toList.length := List.countP_le_length
  rwa [Vector.length_toList] at bound

/-! ### GET STATUS (R180) -/

/-- The words of the status result do not depend on the receive buffers. -/
theorem statusWords_beginTaking (n : LaneId) (s : State) : (beginTaking n s).statusWords = s.statusWords := by
  have lanes : (beginTaking n s).lanesUp = s.lanesUp := by
    simp only [State.lanesUp, (beginTaking_lane n _ s).1]
  rw [State.statusWords, lanes]
  rfl

/-- GET STATUS from any lane, without argument words. -/
theorem exec_getStatus {s : State} {n : LaneId} {p : Parcel} (h : TakesMgmt s n p .getStatus []) :
    exec .getStatus s = .next (answered s n (responseTo p .complete 0 s.statusWords)) := by
  have effect : getStatusEffect n [] (beginTaking n s) =
      some (beginTaking n s, { status := .complete, data := s.statusWords }) := by
    rw [getStatusEffect, statusWords_beginTaking]
  exact congrArg Host.Outcome.next <| takeMgmt_accepted h rfl rfl effect rfl rfl rfl

/-- Settles O41: word by word, each field within its width by the invariants. -/
theorem getStatusResult : Obligations.GetStatusResult := by
  intro s n p args h
  refine ⟨fun hargs => ?_, ?_⟩
  · exact congrArg Host.Outcome.next <| takeMgmt_badArgument h rfl
      fun hl => absurd hl (length_ne_argCount rfl hargs)
  · rintro rfl ⟨⟨lengthA, -⟩, lengthB, -⟩ ⟨records, lost, -⟩ ⟨-, failuresA, failuresB, -⟩
    have entries (x : EntryState) : s.entriesIn x < 32 := Nat.lt_of_le_of_lt (s.entriesIn_le x) (by decide)
    have manager : (s.manager.map Fin.val).getD 15 < 16 := by
      cases s.manager with
      | none => decide
      | some m => exact Nat.lt_succ_of_lt m.isLt
    exact ⟨_, _, _, _, _, _, exec_getStatus h, statusWord_role s.generation _ manager,
      statusWord_entries (entries _) (entries _) (entries _) (entries _) (entries _) (entries _),
      statusWord_blocks s.log.alertOutstanding (x := fun i => s.slots[i].state.code)
        (fun i => s.slots[i].state.code_lt) s.engines.b.state.code_lt s.engines.a.state.code_lt
        (Nat.lt_of_le_of_lt lengthB (by decide)) (Nat.lt_of_le_of_lt lengthA (by decide)),
      statusWord_counts (Nat.lt_of_le_of_lt records (by decide)) (Nat.lt_succ_of_le failuresB)
        (Nat.lt_succ_of_le failuresA),
      statusWord_lanes s (Nat.lt_succ_of_le lost), rfl⟩

end Sys2Proof.Machine
end

section
/-! BROKER RESET (chapter 9): the discard of both queues, what is left of each entry and each slot, the records in their
order, and the statement about them. -/

namespace Sys2Proof.Machine

/-! ### The taking and the discards commute (R18) -/

@[simp] theorem meetBarriers_beginTaking (n : LaneId) (g : Segment) (b : Seq) (s : State) :
    meetBarriers g b (beginTaking n s) = beginTaking n (meetBarriers g b s) := rfl

@[simp] theorem countFailedWrite_beginTaking (n : LaneId) (o : Owner) (s : State) :
    countFailedWrite o (beginTaking n s) = beginTaking n (countFailedWrite o s) := by
  obtain ⟨state, epoch⟩ := beginTaking_lane n o.lane s
  unfold countFailedWrite
  rw [state, epoch, apply_ite (beginTaking n)]
  rfl

theorem discardEntries_beginTaking (n : LaneId) (g : Segment) (es : List QueueEntry) (s : State) :
    discardEntries g es (beginTaking n s) = beginTaking n (discardEntries g es s) := by
  induction es generalizing s with
  | nil => rfl
  | cons e es ih =>
    rw [discardEntries_cons, meetBarriers_beginTaking, countFailedWrite_beginTaking, ih, discardEntries_cons]

theorem discardQueue_beginTaking (n : LaneId) (g : Segment) (c : Cause) (s : State) :
    discardQueue g c (beginTaking n s) = (beginTaking n (discardQueue g c s).1, (discardQueue g c s).2) := by
  refine Prod.ext ?_ rfl
  rw [discardQueue_eq, discardQueue_eq, beginTaking_queues, discardEntries_beginTaking]
  rfl

/-! ### Both queues discarded (R86, R91) -/

theorem Barrier.meetAll_value (es : List QueueEntry) (x : Barrier) : (x.meetAll es).value = x.value := by
  induction es generalizing x with
  | nil => rfl
  | cons e es ih => exact (ih (x.meet e.seq)).trans (Barrier.meet_value e.seq x)

/-- A DTT entry after every entry of both queues has left. -/
def DttEntry.meetBoth (as bs : List QueueEntry) (e : DttEntry) : DttEntry := (e.meetAll .a as).meetAll .b bs

/-- A slot after every entry of both queues has left. -/
def StreamSlot.meetBoth (as bs : List QueueEntry) (x : StreamSlot) : StreamSlot := (x.meetAll .a as).meetAll .b bs

/-- The discard of a queue, field by field. -/
theorem discardQueue_fields (g : Segment) (c : Cause) (s : State) :
    (discardQueue g c s).1 = { s with
      dtt := mapAll (DttEntry.meetAll g (s.queues.get g).entries) s.dtt
      queues := s.queues.set g { s.queues.get g with entries := [], retired := (s.queues.get g).counter }
      fences := mapAll (Option.map (BarrierPair.meetAll g (s.queues.get g).entries)) s.fences
      drain := s.drain.map (BarrierPair.meetAll g (s.queues.get g).entries)
      failedWrites := (discardEntries g (s.queues.get g).entries s).failedWrites
      slots := mapAll (StreamSlot.meetAll g (s.queues.get g).entries) s.slots } := by
  rw [discardQueue_eq, discardEntries_eq]
  rfl

/-- The records of a discard (R86, R153). -/
theorem discardQueue_records (g : Segment) (c : Cause) (s : State) :
    (discardQueue g c s).2 =
      if (s.queues.get g).entries = [] then [] else [writesDropped g (s.queues.get g).entries.length c] := by
  simp only [discardQueue, List.isEmpty_iff]

/-- The state after the discard of PWQ-A and then of PWQ-B (R182 steps 1 and 2). -/
def discardBoth (s : State) : State := (discardQueue .b .brokerReset (discardQueue .a .brokerReset s).1).1

theorem discardBoth_beginTaking (n : LaneId) (s : State) :
    discardBoth (beginTaking n s) = beginTaking n (discardBoth s) := by
  rw [discardBoth, discardQueue_beginTaking, discardQueue_beginTaking, discardBoth]

/-- The discard of PWQ-A leaves PWQ-B. -/
theorem discardQueue_a_queues_b (c : Cause) (s : State) : (discardQueue .a c s).1.queues.b = s.queues.b := by
  rw [discardQueue_fields]
  rfl

/-- The discards of both queues, field by field; the fence records and the drain record are freed later. -/
theorem discardBoth_fields (s : State) :
    discardBoth s = { s with
      dtt := mapAll (DttEntry.meetBoth s.queues.a.entries s.queues.b.entries) s.dtt
      queues :=
        { a := { s.queues.a with entries := [], retired := s.queues.a.counter }
          b := { s.queues.b with entries := [], retired := s.queues.b.counter } }
      fences := (discardBoth s).fences
      drain := (discardBoth s).drain
      failedWrites := (discardBoth s).failedWrites
      slots := mapAll (StreamSlot.meetBoth s.queues.a.entries s.queues.b.entries) s.slots } := by
  have second : discardBoth s = _ := discardQueue_fields .b .brokerReset (discardQueue .a .brokerReset s).1
  rw [PerSegment.get_b, discardQueue_a_queues_b, discardQueue_fields .a] at second
  have entries : (discardBoth s).dtt = mapAll (DttEntry.meetBoth s.queues.a.entries s.queues.b.entries) s.dtt := by
    rw [second]
    exact mapAll_mapAll ..
  have slots : (discardBoth s).slots =
      mapAll (StreamSlot.meetBoth s.queues.a.entries s.queues.b.entries) s.slots := by
    rw [second]
    exact mapAll_mapAll ..
  have queues : (discardBoth s).queues =
      { a := { s.queues.a with entries := [], retired := s.queues.a.counter }
        b := { s.queues.b with entries := [], retired := s.queues.b.counter } } := by
    rw [second]
    rfl
  rw [← entries, ← slots, ← queues]
  unfold discardBoth
  rw [discardQueue_frame, discardQueue_frame .a]

/-- Each discarded entry counts toward its owner while that is present, up to 255 (R102). -/
theorem discardBoth_count (s : State) (m : LaneId) (h : s.failedWrites[m] ≤ 255) :
    (discardBoth s).failedWrites[m] =
      min (s.failedWrites[m] + s.chargedTo m s.queues.a + s.chargedTo m s.queues.b) 255 := by
  have first : (discardQueue .a .brokerReset s).1.failedWrites[m] =
      min (s.failedWrites[m] + s.chargedTo m s.queues.a) 255 := discardEntries_count .a s.queues.a.entries s m h
  have second := discardEntries_count .b s.queues.b.entries (discardQueue .a .brokerReset s).1 m
    (by rw [first]; exact Nat.min_le_right _ _)
  have present (o : Owner) : (discardQueue .a .brokerReset s).1.present o = s.present o := by
    rw [discardQueue_frame]
    rfl
  simp only [present] at second
  have both : (discardBoth s).failedWrites =
      (discardEntries .b s.queues.b.entries (discardQueue .a .brokerReset s).1).failedWrites := by
    rw [discardBoth, discardQueue_eq, PerSegment.get_b, discardQueue_a_queues_b]
    rfl
  have charged (q : PostedQueue) :
      q.entries.countP (fun e => e.owner.lane = m && s.present e.owner) = s.chargedTo m q := rfl
  rw [both, second, first, charged]
  omega

/-! ### The release of an entry (R62, R64) -/

/-- The entries that leave change nothing of a DTT entry but its barrier, which still names the same number (R91). -/
theorem DttEntry.meetAll_barrier (g : Segment) (es : List QueueEntry) (e : DttEntry) :
    ∃ b : Barrier, b.value = e.barrier.value ∧ e.meetAll g es = { e with barrier := b } := by
  unfold DttEntry.meetAll
  split
  · exact ⟨e.barrier.meetAll es, Barrier.meetAll_value es e.barrier, rfl⟩
  · exact ⟨e.barrier, rfl, rfl⟩

theorem DttEntry.meetBoth_barrier (as bs : List QueueEntry) (e : DttEntry) :
    ∃ b : Barrier, b.value = e.barrier.value ∧ e.meetBoth as bs = { e with barrier := b } := by
  obtain ⟨x, hx, first⟩ := e.meetAll_barrier .a as
  obtain ⟨y, hy, second⟩ := DttEntry.meetAll_barrier .b bs { e with barrier := x }
  exact ⟨y, hy.trans hx, by rw [DttEntry.meetBoth, first, second]⟩

/-- A released entry whose cycle is in progress is ABANDONED, and otherwise as it was (R62). -/
theorem DttEntry.release_of_onBus {e : DttEntry} (h : e.state = .issued ∨ e.state = .abandoned) :
    e.release = { e with state := .abandoned } := by
  rcases h with h | h
  · simp [DttEntry.release, h]
  · have kept : e.release = e := by simp [DttEntry.release, h]
    rw [kept, ← h]

/-- Any other released entry is FREE (R62). -/
theorem DttEntry.release_state_free {e : DttEntry} (hi : e.state ≠ .issued) (ha : e.state ≠ .abandoned) :
    e.release.state = .free := by
  rcases e.release_cases with ⟨he, hs⟩ | ⟨he, -⟩ | ⟨-, hs⟩
  · rw [he]
    exact hs.resolve_right ha
  · rw [he]
    rfl
  · exact absurd hs hi

section
variable (as bs : List QueueEntry) {e : DttEntry}

/-- After the discards an entry whose cycle is in progress becomes ABANDONED; its barrier names the number it named. -/
theorem DttEntry.release_meetBoth_of_onBus (h : e.state = .issued ∨ e.state = .abandoned) :
    ∃ b : Barrier, b.value = e.barrier.value ∧
      (e.meetBoth as bs).release = { e with state := .abandoned, barrier := b } := by
  obtain ⟨b, named, met⟩ := e.meetBoth_barrier as bs
  refine ⟨b, named, ?_⟩
  rw [met]
  exact DttEntry.release_of_onBus h

/-- After the discards any other entry becomes FREE. -/
theorem DttEntry.release_meetBoth_free (hi : e.state ≠ .issued) (ha : e.state ≠ .abandoned) :
    (e.meetBoth as bs).release.state = .free := by
  obtain ⟨b, -, met⟩ := e.meetBoth_barrier as bs
  rw [met]
  exact DttEntry.release_state_free hi ha

end

/-- The records of released entries are the WORK-ABANDONED records of those among them that are PARTIAL with words done
(R64). -/
theorem releaseEntries_records (p : DttEntry → Bool) (s : State) :
    (releaseEntries p s).2 = workAbandonedOf p s := by
  have records (l : List DttEntry) : l.flatMap (fun e => if p e then e.releaseRecord else []) =
      (l.filter fun e => p e && e.state = .partly && e.kind = .ackedWrite && 1 ≤ e.progress).map fun e =>
        { kind := .workAbandoned, lane := some e.owner.lane, segment := some e.segment, segAddr := some e.segAddr,
          words := some e.progress } := by
    induction l with
    | nil => rfl
    | cons e l ih =>
      rw [List.flatMap_cons, ih]
      by_cases hp : p e = true
      · by_cases hs : e.state = .partly
        · by_cases hk : e.kind = .ackedWrite ∧ 1 ≤ e.progress <;>
            simp [DttEntry.releaseRecord, DttEntry.workAbandoned, hp, hs, hk]
        · simp [DttEntry.releaseRecord, hp, hs]
      · simp [hp]
  exact records s.dtt.toList

/-- A change of barriers alone changes no record of a release. -/
theorem workAbandonedOf_congr {s t : State} {f : DttEntry → DttEntry} (ht : t.dtt = mapAll f s.dtt)
    (hf : ∀ e, ∃ b, f e = { e with barrier := b }) :
    workAbandonedOf (fun _ => true) t = workAbandonedOf (fun _ => true) s := by
  have list : t.dtt.toList = s.dtt.toList.map f := by
    have plain : mapAll f s.dtt = s.dtt.map f := Vector.ext fun i hi => by simp
    rw [ht, plain, Vector.toList_map]
  have same (e : DttEntry) : (f e).releaseRecord = e.releaseRecord := by
    obtain ⟨b, hb⟩ := hf e
    rw [hb]
    rfl
  rw [← releaseEntries_records, ← releaseEntries_records]
  simp only [releaseEntries, list, List.flatMap_map, same]

/-! ### The drop of a slot (R118) -/

/-- The entries that leave change nothing of a slot but its refill, which stays pending with its cycle (R91). -/
theorem StreamSlot.meetAll_refill (g : Segment) (es : List QueueEntry) (x : StreamSlot) :
    ∃ r : Option PendingRefill, x.meetAll g es = { x with refill := r } ∧ (x.meetAll g es).inCycle = x.inCycle := by
  unfold StreamSlot.meetAll
  split
  · exact ⟨_, rfl, x.refillMet_inCycle es⟩
  · exact ⟨x.refill, rfl, rfl⟩

theorem StreamSlot.meetBoth_refill (as bs : List QueueEntry) (x : StreamSlot) :
    ∃ r : Option PendingRefill, x.meetBoth as bs = { x with refill := r } ∧ (x.meetBoth as bs).inCycle = x.inCycle := by
  obtain ⟨r, first, cycle⟩ := x.meetAll_refill .a as
  obtain ⟨r', second, cycle'⟩ := (x.meetAll .a as).meetAll_refill .b bs
  refine ⟨r', ?_, cycle'.trans cycle⟩
  rw [StreamSlot.meetBoth, second, first]

/-- A dropped slot whose refill is in a cycle is RETIRING, with its owner, its segment and its window. -/
theorem StreamSlot.drop_of_onBus {x : StreamSlot}
    (h : x.state = .retiring ∨ x.state = .filling ∧ x.inCycle = true) :
    x.drop.state = .retiring ∧ x.drop.owner = x.owner ∧ x.drop.segment = x.segment ∧ x.drop.window = x.window := by
  rcases h with hr | ⟨hf, hc⟩
  · rw [StreamSlot.drop_of_retiring hr]
    exact ⟨hr, rfl, rfl, rfl⟩
  · rw [StreamSlot.drop_of_filling_inCycle hf hc]
    exact ⟨rfl, rfl, rfl, rfl⟩

/-- Any other dropped slot is EMPTY. -/
theorem StreamSlot.drop_state_empty {x : StreamSlot} (hr : x.state ≠ .retiring)
    (hf : x.state ≠ .filling ∨ x.inCycle = false) : x.drop.state = .empty := by
  rcases x.drop_cases with ⟨he, hs⟩ | ⟨he, -⟩ | ⟨-, hs, hc⟩
  · rw [he]
    exact hs.resolve_right hr
  · rw [he]
    rfl
  · exact (hf.elim (· hs) fun idle => Bool.eq_false_iff.1 idle hc).elim

section
variable (as bs : List QueueEntry) {x : StreamSlot}

/-- After the discards a slot whose refill is in a cycle becomes RETIRING. -/
theorem StreamSlot.drop_meetBoth_of_onBus (h : x.state = .retiring ∨ x.state = .filling ∧ x.inCycle = true) :
    (x.meetBoth as bs).drop.state = .retiring ∧ (x.meetBoth as bs).drop.owner = x.owner ∧
      (x.meetBoth as bs).drop.segment = x.segment ∧ (x.meetBoth as bs).drop.window = x.window := by
  obtain ⟨r, met, cycle⟩ := x.meetBoth_refill as bs
  rw [met] at cycle ⊢
  exact StreamSlot.drop_of_onBus (x := { x with refill := r }) (by rwa [cycle])

/-- After the discards any other slot becomes EMPTY. -/
theorem StreamSlot.drop_meetBoth_empty (hr : x.state ≠ .retiring) (hf : x.state ≠ .filling ∨ x.inCycle = false) :
    (x.meetBoth as bs).drop.state = .empty := by
  obtain ⟨r, met, cycle⟩ := x.meetBoth_refill as bs
  rw [met] at cycle ⊢
  exact StreamSlot.drop_state_empty (x := { x with refill := r }) hr (by rwa [cycle])

end

/-! ### The effects of BROKER RESET (R182) -/

/-- Steps 3 to 6 of R182, and the gate. -/
def releaseAll (s : State) : State :=
  { zeroFailures (freeRecords (dropSlots (fun _ => true) (releaseEntries (fun _ => true) s).1)) with gate := .closed }

theorem releaseAll_beginTaking (n : LaneId) (s : State) :
    releaseAll (beginTaking n s) = beginTaking n (releaseAll s) := rfl

theorem workAbandonedOf_beginTaking (q : DttEntry → Bool) (n : LaneId) (s : State) :
    workAbandonedOf q (beginTaking n s) = workAbandonedOf q s := rfl

theorem resetWork_state (s : State) : (resetWork s).1 = releaseAll (discardBoth s) := rfl

/-- What BROKER RESET leaves before its records are handed, field by field. -/
theorem releaseAll_discardBoth (s : State) :
    let v := mapAll (fun x => (x.meetBoth s.queues.a.entries s.queues.b.entries).drop) s.slots
    releaseAll (discardBoth s) = { s with
      dtt := mapAll (fun e => (e.meetBoth s.queues.a.entries s.queues.b.entries).release) s.dtt
      queues :=
        { a := { s.queues.a with entries := [], retired := s.queues.a.counter }
          b := { s.queues.b with entries := [], retired := s.queues.b.counter } }
      fences := Vector.replicate 15 none
      drain := none
      failedWrites := (discardBoth s).failedWrites
      slots := v
      refillOrder := keptOrder v s.refillOrder
      engines := { a := { s.engines.a with failures := 0 }, b := { s.engines.b with failures := 0 } }
      gate := .closed } := by
  intro v
  have entries : mapAll (fun e => (e.meetBoth s.queues.a.entries s.queues.b.entries).release) s.dtt =
      mapAll DttEntry.release (mapAll (DttEntry.meetBoth s.queues.a.entries s.queues.b.entries) s.dtt) :=
    (mapAll_mapAll ..).symm
  have slots : v = mapAll StreamSlot.drop
      (mapAll (StreamSlot.meetBoth s.queues.a.entries s.queues.b.entries) s.slots) := (mapAll_mapAll ..).symm
  rw [discardBoth_fields, slots, entries]
  rfl

/-- The records of BROKER RESET in their order: A's drop, B's drop, abandoned writes. -/
theorem resetWork_records (s : State) :
    (resetWork s).2 =
      (if s.queues.a.entries = [] then [] else [writesDropped .a s.queues.a.entries.length .brokerReset]) ++
        (if s.queues.b.entries = [] then [] else [writesDropped .b s.queues.b.entries.length .brokerReset]) ++
        workAbandonedOf (fun _ => true) s := by
  have parts : (resetWork s).2 = (discardQueue .a .brokerReset s).2 ++
      (discardQueue .b .brokerReset (discardQueue .a .brokerReset s).1).2 ++
      (releaseEntries (fun _ => true) (discardBoth s)).2 := rfl
  have abandoned : workAbandonedOf (fun _ => true) (discardBoth s) = workAbandonedOf (fun _ => true) s :=
    workAbandonedOf_congr (by rw [discardBoth_fields]) fun e =>
      let ⟨b, _, hb⟩ := e.meetBoth_barrier s.queues.a.entries s.queues.b.entries
      ⟨b, hb⟩
  rw [parts, discardQueue_records, discardQueue_records, releaseEntries_records, abandoned, PerSegment.get_a,
    PerSegment.get_b, discardQueue_a_queues_b]

theorem resetWork_beginTaking (n : LaneId) (s : State) :
    resetWork (beginTaking n s) = (beginTaking n (resetWork s).1, (resetWork s).2) := by
  have state : (resetWork (beginTaking n s)).1 = beginTaking n (resetWork s).1 := by
    rw [resetWork_state, discardBoth_beginTaking, releaseAll_beginTaking, resetWork_state]
  have records : (resetWork (beginTaking n s)).2 = (resetWork s).2 := by
    rw [resetWork_records, resetWork_records, beginTaking_queues, workAbandonedOf_beginTaking]
  exact Prod.ext state records

theorem resetWork_lanes (s : State) : (resetWork s).1.lanes = s.lanes := by
  rw [resetWork_state, releaseAll_discardBoth]

/-- The trigger of an operation that hands records (R159). -/
theorem triggeredBy_eq (bs : List RecordBody) (s : State) :
    triggeredBy bs s = if (!bs.isEmpty) = true then alertTrigger s else s := by
  cases bs <;> rfl

/-- What BROKER RESET leaves, with its records handed to the log. -/
def brokerReset (s : State) : State := handRecords (resetWork s).2 (resetWork s).1

theorem brokerReset_eq (s : State) :
    brokerReset s = { releaseAll (discardBoth s) with log := s.logAfter (resetWork s).2 } := by
  rw [brokerReset, resetWork_state, releaseAll_discardBoth]
  rfl

theorem brokerReset_dtt (s : State) (i : EntryIndex) :
    (brokerReset s).dtt[i] = (s.dtt[i].meetBoth s.queues.a.entries s.queues.b.entries).release := by
  rw [brokerReset_eq, releaseAll_discardBoth, mapAll_table]

theorem brokerReset_slots (s : State) (i : SlotIndex) :
    (brokerReset s).slots[i] = (s.slots[i].meetBoth s.queues.a.entries s.queues.b.entries).drop := by
  rw [brokerReset_eq, releaseAll_discardBoth, mapAll_table]

theorem brokerReset_failedWrites (s : State) : (brokerReset s).failedWrites = (discardBoth s).failedWrites := by
  rw [brokerReset_eq, releaseAll_discardBoth]

/-- BROKER RESET from the manager, without argument words. -/
theorem exec_brokerReset {s : State} {n : LaneId} {p : Parcel} (hm : s.manager = some n)
    (h : TakesMgmt s n p .brokerReset []) :
    exec .brokerReset s =
      .next (triggeredBy (resetWork s).2 (answered (brokerReset s) n (responseTo p .complete 0 []))) := by
  have effect : brokerResetEffect n [] (beginTaking n s) =
      some (handRecords (resetWork s).2 (beginTaking n (resetWork s).1),
        { complete with trigger := !(resetWork s).2.isEmpty }) := by
    rw [brokerResetEffect, resetWork_beginTaking]
  have lanes : (beginTaking n (resetWork s).1).lanes = (beginTaking n s).lanes := by
    rw [beginTaking_lanes_self, beginTaking_lanes_self, resetWork_lanes]
  rw [triggeredBy_eq]
  refine congrArg Host.Outcome.next <| takeMgmt_answers h (if_pos hm) rfl effect (resetWork_lanes s) ?_
  rw [← lanes]
  rfl

/-- Settles O45: the work of R182 field by field, and then each lane, entry and slot by what it makes of it. -/
theorem brokerResetEffects : Obligations.BrokerResetEffects := by
  intro s n p args h
  refine ⟨refusedFirst_of_takeMgmt rfl (by decide) (by decide) h, ?_⟩
  rintro hm rfl ⟨counts, -⟩ dropped recs
  have records : (resetWork s).2 = recs := resetWork_records s
  have answer := exec_brokerReset hm h
  rw [records] at answer
  refine ⟨brokerReset s, answer, ?_, fun m => ?_, fun i => ⟨fun onBus => ?_, fun hi ha => ?_⟩,
    fun i => ⟨fun onBus => ?_, fun hr hf => ?_⟩⟩
  · rw [brokerReset_eq, releaseAll_discardBoth, records]
  · rw [brokerReset_failedWrites]
    exact discardBoth_count s m (counts m)
  · obtain ⟨b, named, released⟩ := DttEntry.release_meetBoth_of_onBus _ _ onBus
    rw [brokerReset_dtt, released]
    exact ⟨rfl, named⟩
  · rw [brokerReset_dtt]
    exact DttEntry.release_meetBoth_free _ _ hi ha
  · rw [brokerReset_slots]
    exact StreamSlot.drop_meetBoth_of_onBus _ _ onBus
  · rw [brokerReset_slots]
    exact StreamSlot.drop_meetBoth_empty _ _ hr hf

end Sys2Proof.Machine
end

section
/-! The release of a lane's items, by PURGE LANE (chapter 9) and by a departure (chapter 10): what it makes of each
entry and each slot, and the statements about PURGE LANE, DEPARTURE and a delivery that breaches the credit. -/

namespace Sys2Proof.Machine

/-! ### The release of a lane's items (R62, R64, R118) -/

/-- What a release makes of an entry is what R62 says of it. -/
theorem DttEntry.releasedTo_release (e : DttEntry) : e.ReleasedTo e.release := by
  unfold DttEntry.ReleasedTo DttEntry.release
  cases e.state <;> rfl

section
variable (n : LaneId) (s : State)

/-- The release of a lane's items, field by field; the entries and the slots are given one by one below. -/
theorem releaseLane_fields :
    (releaseLane n s).1 = { s with
      dtt := (releaseLane n s).1.dtt
      slots := (releaseLane n s).1.slots
      refillOrder := keptOrder (releaseLane n s).1.slots s.refillOrder
      fences := s.fences.set n none
      failedWrites := s.failedWrites.set n 0 } := rfl

/-- The lane's entries are released, of any owner epoch, and no other entry changes. -/
theorem releaseLane_entry (i : EntryIndex) :
    (s.dtt[i].owner.lane = n → s.dtt[i].ReleasedTo (releaseLane n s).1.dtt[i]) ∧
      (s.dtt[i].owner.lane ≠ n → (releaseLane n s).1.dtt[i] = s.dtt[i]) := by
  have entry : (releaseLane n s).1.dtt[i] =
      if decide (s.dtt[i].owner.lane = n) = true then s.dtt[i].release else s.dtt[i] := mapAll_table ..
  rw [entry]
  refine ⟨fun own => ?_, fun other => if_neg (of_decide_eq_true.mt other)⟩
  rw [if_pos (decide_eq_true own)]
  exact s.dtt[i].releasedTo_release

/-- The lane's slots are dropped, and no other slot changes. -/
theorem releaseLane_slot (i : SlotIndex) :
    (s.slots[i].owner.lane = n → s.slots[i].DroppedTo (releaseLane n s).1.slots[i]) ∧
      (s.slots[i].owner.lane ≠ n → (releaseLane n s).1.slots[i] = s.slots[i]) := by
  have slot : (releaseLane n s).1.slots[i] =
      if decide (s.slots[i].owner.lane = n) = true then s.slots[i].drop else s.slots[i] := mapAll_table ..
  rw [slot]
  refine ⟨fun own => ?_, fun other => if_neg (of_decide_eq_true.mt other)⟩
  rw [if_pos (decide_eq_true own)]
  exact s.slots[i].droppedTo_drop

theorem releaseLane_records : (releaseLane n s).2 = workAbandonedOf (fun e => e.owner.lane = n) s :=
  releaseEntries_records _ s

/-! ### A departure, and a breach of the credit (R187, R191) -/

/-- Steps 1 to 4 of R191, field by field. -/
theorem leaveLane_fields :
    leaveLane n s = { s with
      lanes := s.lanes.set n { s.lanes[n] with state := .down, rx := [], tx := [] }
      manager := if s.manager = some n then none else s.manager
      drain := if s.manager = some n then none else s.drain
      log := if s.manager = some n then { s.log with alertOutstanding := false } else s.log } := by
  unfold leaveLane
  by_cases role : s.manager = some n
  · simp only [role, if_true]
    rfl
  · simp only [role, if_false]
    rfl

/-- What a departure leaves before its records are handed. -/
def departed : State := (releaseLane n (leaveLane n s)).1

theorem departed_fields :
    departed n s = { s with
      lanes := s.lanes.set n { s.lanes[n] with state := .down, rx := [], tx := [] }
      dtt := (departed n s).dtt
      slots := (departed n s).slots
      refillOrder := keptOrder (departed n s).slots s.refillOrder
      fences := s.fences.set n none
      failedWrites := s.failedWrites.set n 0
      manager := if s.manager = some n then none else s.manager
      drain := if s.manager = some n then none else s.drain
      log := if s.manager = some n then { s.log with alertOutstanding := false } else s.log } := by
  unfold departed
  rw [releaseLane_fields, leaveLane_fields]

/-- The first steps of a departure touch no entry and no slot, so its releases are those of the state before it. -/
theorem leaveLane_work : (leaveLane n s).dtt = s.dtt ∧ (leaveLane n s).slots = s.slots := by
  rw [leaveLane_fields]
  exact ⟨rfl, rfl⟩

theorem departLane_eq :
    departLane n s = recordEvent (workAbandonedOf (fun e => e.owner.lane = n) s) (departed n s) := by
  have records : (releaseLane n (leaveLane n s)).2 = workAbandonedOf (fun e => e.owner.lane = n) s := by
    rw [releaseLane_records, workAbandonedOf, (leaveLane_work n s).1, workAbandonedOf]
  rw [← records]
  rfl

end

section
variable {n : LaneId} {s : State}

theorem exec_departure (up : s.lanes[n].state = .up) : exec (.departure n) s = .next (departLane n s) :=
  congrArg Host.Outcome.next (if_pos up)

/-- A delivery to a full receive buffer is a departure (R187). -/
theorem exec_parcelDelivery_breach (up : s.lanes[n].state = .up) (full : 2 ≤ s.lanes[n].rx.length) (p : Parcel) :
    exec (.parcelDelivery n p) s = .next (departLane n s) :=
  congrArg Host.Outcome.next <| (if_pos up).trans (if_neg (Nat.not_lt.2 full))

end

/-- Settles O60: both events are the departure of the lane, whose releases are those of the lane's items. -/
theorem departureAndCreditBreach : Obligations.DepartureAndCreditBreach := by
  intro s n up recs
  obtain ⟨entries, slots⟩ := leaveLane_work n s
  refine ⟨departed n s, ?_, fun p full => ?_, departed_fields n s, fun i => ?_, fun i => ?_⟩
  · rw [exec_departure up, departLane_eq]
  · rw [exec_departure up, exec_parcelDelivery_breach up full]
  · rw [← entries]
    exact releaseLane_entry n (leaveLane n s) i
  · rw [← slots]
    exact releaseLane_slot n (leaveLane n s) i

/-! ### An operation that changes another lane (R18, R159) -/

/-- An operation that passes the checks and whose effect commutes with the taking of the parcel: the answer is placed on
what the effect makes of the state before the taking, and the trigger follows if the operation was one. -/
theorem takeMgmt_commutes {op : MgmtOp} {effect : LaneId → List Word → State → Option (State × Reply)} {s v : State}
    {n : LaneId} {p : Parcel} {args : List Word} {r : Reply} (h : TakesMgmt s n p op args)
    (hr : roleRefusal op n s.manager = none) (hc : args.length = op.argCount)
    (he : effect n args (beginTaking n s) = some (beginTaking n v, r)) :
    takeMgmt op effect s =
      if r.trigger = true then alertTrigger (answered v n (responseTo p r.status r.info r.data))
      else answered v n (responseTo p r.status r.info r.data) := by
  have handled : manage op effect n args (beginTaking n s) = (beginTaking n v, r) := by
    simp [manage, hr, hc, he]
  rw [takeMgmt_taken h, handled]
  exact respond_answered rfl rfl

/-- A change of one lane and the taking of a parcel from another commute. -/
theorem modifyLane_beginTaking {m n : LaneId} (other : m ≠ n) (f : Lane → Lane) (s : State) :
    (beginTaking n s).modifyLane m f = beginTaking n (s.modifyLane m f) := by
  have distinct : n.val ≠ m.val := fun e => other (Fin.ext e.symm)
  have read : (beginTaking n s).lanes[m] = s.lanes[m] := table_set_ne s.lanes _ other.symm
  have untouched : (s.modifyLane m f).lanes[n] = s.lanes[n] := table_set_ne s.lanes _ other
  unfold State.modifyLane at untouched ⊢
  rw [read, beginTaking_lanes_self, Vector.set_comm _ _ distinct]
  unfold beginTaking State.modifyLane
  rw [untouched]

/-! ### PURGE LANE (R193) -/

/-- A lane under its next epoch (R193 step 1). -/
def advanceEpoch (m : LaneId) (s : State) : State := s.modifyLane m fun l => { l with epoch := l.epoch + 1 }

/-- What PURGE LANE leaves, with its records handed to the log. -/
def purged (m : LaneId) (s : State) : State :=
  handRecords (workAbandonedOf (fun e => e.owner.lane = m) s) (releaseLane m (advanceEpoch m s)).1

theorem purged_fields (m : LaneId) (s : State) :
    purged m s = { s with
      lanes := s.lanes.set m { s.lanes[m] with epoch := s.lanes[m].epoch + 1 }
      dtt := (purged m s).dtt
      slots := (purged m s).slots
      refillOrder := keptOrder (purged m s).slots s.refillOrder
      fences := s.fences.set m none
      failedWrites := s.failedWrites.set m 0
      log := s.logAfter (workAbandonedOf (fun e => e.owner.lane = m) s) } := rfl

theorem purged_beginTaking {m n : LaneId} (other : m ≠ n) (s : State) :
    purged m (beginTaking n s) = beginTaking n (purged m s) := by
  rw [purged, advanceEpoch, modifyLane_beginTaking other]
  rfl

section
variable {s : State} {n : LaneId} {w : Word}

theorem purgeLaneEffect_purges {m : LaneId} (hw : w.toNat = m.val) (hm : s.manager ≠ some m) :
    purgeLaneEffect n [w] s = some (purged m s,
      { complete with trigger := !(workAbandonedOf (fun e => e.owner.lane = m) s).isEmpty }) := by
  have records : (releaseLane m (advanceEpoch m s)).2 = workAbandonedOf (fun e => e.owner.lane = m) s :=
    releaseLane_records m (advanceEpoch m s)
  rw [purged, ← records, purgeLaneEffect, indexOf_of_eq hw]
  exact if_neg hm

/-- The manager lane and a number above 14 are out of range. -/
theorem purgeLaneEffect_refuses (hm : s.manager = some n) (bad : w.toNat = n.val ∨ 15 ≤ w.toNat) :
    purgeLaneEffect n [w] s = none := by
  rw [purgeLaneEffect]
  rcases bad with own | above
  · rw [indexOf_of_eq own]
    exact if_pos hm
  · rw [indexOf_eq_none above]

/-- PURGE LANE from the manager, of another lane. -/
theorem exec_purgeLane {p : Parcel} {m : LaneId} (hm : s.manager = some n) (h : TakesMgmt s n p .purgeLane [w])
    (hw : w.toNat = m.val) (other : m ≠ n) :
    exec .purgeLane s = .next (triggeredBy (workAbandonedOf (fun e => e.owner.lane = m) s)
      (answered (purged m s) n (responseTo p .complete 0 []))) := by
  have notManager : (beginTaking n s).manager ≠ some m := fun held => other (Option.some.inj (held.symm.trans hm))
  have effect : purgeLaneEffect n [w] (beginTaking n s) = some (beginTaking n (purged m s),
      { complete with trigger := !(workAbandonedOf (fun e => e.owner.lane = m) s).isEmpty }) := by
    rw [purgeLaneEffect_purges hw notManager, purged_beginTaking other, workAbandonedOf_beginTaking]
  rw [triggeredBy_eq]
  exact congrArg Host.Outcome.next <| takeMgmt_commutes h (if_pos hm) rfl effect

end

/-- Settles O44: after the refusals, by whether the argument names another lane. -/
theorem purgeLaneEffects : Obligations.PurgeLaneEffects := by
  intro s n p
  refine ⟨fun args h => refusedFirst_of_takeMgmt rfl (by decide) (by decide) h,
    fun w hm h => ⟨fun m hw other => ?_, fun bad => ?_⟩⟩
  · exact ⟨purged m s, exec_purgeLane hm h hw other, purged_fields m s, releaseLane_entry m (advanceEpoch m s),
      releaseLane_slot m (advanceEpoch m s)⟩
  · exact congrArg Host.Outcome.next <|
      takeMgmt_badArgument h (if_pos hm) fun _ => purgeLaneEffect_refuses hm bad

end Sys2Proof.Machine
end

section
/-! What a step can do, said once: the changes that the handling of a parcel is made of (`Work`), those that the end of
a cycle is made of (`Part`), and those of the other events (`Event`). Every command is a run of such changes, so a
property of the state is kept by every step when it is kept by each of them. -/

namespace Sys2Proof.Machine

/-! ### The changes -/

/-- A request of w words at an address that the form check passed and that window k, on a segment that is not FAULTED,
contains (R8, R24, R32). -/
abbrev Placed (s : State) (k : WindowIndex) (a : Word) (w : Nat) : Prop :=
  spanOk a w = true ∧ s.live[k].contains a = true ∧ (s.engine s.live[k].segment).state ≠ .faulted

/-- Every slot is as it was or dropped (R118). -/
abbrev KeptOrDropped (u v : Vector StreamSlot 4) : Prop := ∀ i : SlotIndex, v[i] = u[i] ∨ v[i] = u[i].drop

/-- A slot that allocation may write: EMPTY, HOLDING, or FILLING with its refill in no cycle (R111). -/
abbrev StreamSlot.replaceable (x : StreamSlot) : Prop :=
  x.state = .empty ∨ x.state = .holding ∨ x.state = .filling ∧ x.inCycle = false

/-- Nothing belongs to a lane: no entry that a repeat may match, no slot that serves, no fence record. -/
structure State.bare (s : State) (m : LaneId) : Prop where
  entries : ∀ i : EntryIndex, s.dtt[i].owner.lane = m → s.dtt[i].matchable = false
  slots : ∀ i : SlotIndex, s.slots[i].owner.lane = m → s.slots[i].live = false
  fence : s.fences[m] = none

/-- A change that the handling of a parcel, an expiry or a fault may make. None touches a receive or a transmit buffer,
the state of a lane, or the commands that wait. -/
inductive Work (s : State) : State → Prop
  /-- Slots are dropped (R118). -/
  | drop (v : Vector StreamSlot 4) (dropped : KeptOrDropped s.slots v) : Work s (s.setSlots v)
  /-- Entries are released; the release of a READY entry is also its collection and its discard (R49, R57, R62). -/
  | release (v : Vector DttEntry 16) (released : ∀ i : EntryIndex, v[i] = s.dtt[i] ∨ v[i] = s.dtt[i].release) :
      Work s { s with dtt := v }
  /-- A tail is closed (R77). -/
  | closeTail (g : Segment) : Work s (s.setQueue g (s.queues.get g).closeTail)
  /-- Words are served from a slot (R117). -/
  | serve (i : SlotIndex) (w : Nat) :
      Work s (s.setSlot i (s.slots[i].serve w s.timebase (s.after s.params.streamIdle)))
  /-- A slot requests a refill (R113). -/
  | refill (i : SlotIndex) (wants : s.slots[i].wantsRefill = true) :
      Work s { s.setSlot i (s.slots[i].withRefill (s.queues.get s.slots[i].segment).tailBarrier) with
        refillOrder :=
          let p := keptOrder (s.slots.set i (s.slots[i].withRefill (s.queues.get s.slots[i].segment).tailBarrier))
            s.refillOrder
          p.set s.slots[i].segment (p.get s.slots[i].segment ++ [i]) }
  /-- A slot is written for the READY entry j, which is stream-flagged; the owner's slot may have been retired before
  (R111, R112). -/
  | fill (j : EntryIndex) (o : Owner) (i : SlotIndex) (v : Vector StreamSlot 4)
      (ready : s.dtt[j].state = .ready) (flagged : s.dtt[j].streamFlag = true)
      (inside : s.dtt[j].address.toNat + 4 * s.dtt[j].words ≠ s.live[s.dtt[j].window].windowEnd)
      (up : (s.engine s.dtt[j].segment).state ≠ .faulted) (present : s.present o = true)
      (dropped : KeptOrDropped s.slots v) (free : v[i].replaceable)
      (alone : OwnersOk s → ∀ h : SlotIndex, h ≠ i → v[h].live = true → v[h].owner.lane ≠ o.lane) :
      Work s (s.setSlots (v.set i (newSlot o s.dtt[j].window s.dtt[j].segment
        (s.dtt[j].address + BitVec.ofNat 32 (4 * s.dtt[j].words)) s)))
  /-- An entry is created (R42, R44). -/
  | create (i : EntryIndex) (o : Owner) (kind : EntryKind) (a : Word) (w : Nat) (ws : List WriteWord) (k : WindowIndex)
      (free : s.dtt[i].state = .free) (unmatched : matchEntry o kind a w ws s = none) (present : s.present o = true)
      (placed : Placed s k a w) :
      Work s { s with dtt := s.dtt.set i (newEntry o kind a w ws k s), creationCounter := s.creationCounter + 1 }
  /-- A write joins the open tail (R73). -/
  | merge (o : Owner) (k : WindowIndex) (a : Word) (ws : List WriteWord) (e : QueueEntry)
      (tail : (s.queues.get s.live[k].segment).tail = some e)
      (merges : e.merges o k s.live[k].merge (s.live[k].translate a) ws = true) (placed : Placed s k a ws.length) :
      Work s (s.setQueue s.live[k].segment { s.queues.get s.live[k].segment with
        entries := (s.queues.get s.live[k].segment).entries.dropLast ++ [e.append ws] })
  /-- A write becomes a new tail (R74). -/
  | push (o : Owner) (k : WindowIndex) (a : Word) (ws : List WriteWord)
      (room : (s.queues.get s.live[k].segment).entries.length < 32) (placed : Placed s k a ws.length) :
      Work s (s.setQueue s.live[k].segment ((s.queues.get s.live[k].segment).push
        (newQueueEntry s o k (s.live[k].translate a) ws ((s.queues.get s.live[k].segment).counter + 1))))
  /-- A fence record is made (R94). -/
  | fence (n : LaneId) (up : s.lanes[n].state = .up) :
      Work s (s.setFence n (some (fenceRecord (s.currentOwner n) s)))
  /-- A fence record is freed and its lane's count is set to 0 (R96, R103). -/
  | clearFence (n : LaneId) : Work s (clearFence n s)
  /-- A lane takes the role (R168). -/
  | claim (n : LaneId) (up : s.lanes[n].state = .up) : Work s { s with manager := some n }
  /-- The role ends (R166). -/
  | endRole : Work s (endRole s)
  /-- The gate is set (R172). -/
  | gate (x : Gate) : Work s { s with gate := x }
  /-- A record that passed the checks is staged (R5). -/
  | stage (k : WindowIndex) (w : WindowRecord) (ok : w.ok = true) : Work s { s with staged := s.staged.set k w }
  /-- The banks are copied, and the entries changed, by a COMMIT (R11, R12). -/
  | commit : Work s { commitBanks s with dtt := mapAll DttEntry.commit s.dtt }
  /-- A parameter is set (R175). -/
  | params (p : Parameters) (inRange : s.params.inRange → p.inRange) : Work s (setParams p s)
  /-- Records leave the log (R157). -/
  | takeLog : Work s { s with log := s.log.taken }
  /-- A segment state, other than by a fault, or a consecutive-failure count is set (R141, R146, R147, R149). -/
  | mark (g : Segment) (x : SegmentState) (count : Nat) (state : x ≠ .faulted ∨ x = (s.engine g).state)
      (small : count ≤ 255 ∨ count = (s.engine g).failures) :
      Work s (s.setEngine g { s.engine g with state := x, failures := count })
  /-- The drain record is made or freed (R100). -/
  | drain (r : Option BarrierPair) (made : r = none ∨ r = some (drainRecord s)) : Work s { s with drain := r }
  /-- Every fence record and the drain record are freed (R105). -/
  | freeRecords : Work s (freeRecords s)
  /-- A lane to which nothing belongs takes its next epoch (R193). -/
  | epoch (m : LaneId) (bare : s.bare m) : Work s (advanceEpoch m s)
  /-- A record is handed to the log (R154, R155). -/
  | record (b : RecordBody) : Work s { s with log := s.log.hand s.timebase b }
  /-- A queue is discarded (R85, R86). -/
  | discard (g : Segment) (c : Cause) : Work s (discardQueue g c s).1

/-- A slot is neither RETIRING nor FILLING with its refill in a cycle. -/
abbrev StreamSlot.OffBus (x : StreamSlot) : Prop := x.state ≠ .retiring ∧ ¬(x.state = .filling ∧ x.inCycle = true)

/-- No entry and no slot of a segment is on the bus. -/
structure State.offBus (s : State) (g : Segment) : Prop where
  entries : ∀ i : EntryIndex, s.dtt[i].segment = g → s.dtt[i].state ≠ .issued ∧ s.dtt[i].state ≠ .abandoned
  slots : ∀ i : SlotIndex, s.slots[i].segment = g → s.slots[i].OffBus

/-- A change that the end of a cycle on segment g may make before its records are handed (R138, R139). -/
inductive Part (g : Segment) (s : State) : State → Prop
  /-- A change that the handling of a parcel may make too. -/
  | work {t : State} (w : Work s t) : Part g s t
  /-- The engine becomes IDLE; no item of its segment is on the bus. -/
  | idle (off : ItemsOnBusOk s → s.offBus g) : Part g s (engineIdle g s)
  /-- The head leaves its queue (R83, R84). -/
  | retire (e : QueueEntry) (rest : List QueueEntry) (head : (s.queues.get g).entries = e :: rest) :
      Part g s (meetBarriers g e.seq (s.setQueue g { s.queues.get g with entries := rest, retired := e.seq }))
  /-- The head stays, with other progress and BACKOFFs (R81). -/
  | stay (e : QueueEntry) (rest : List QueueEntry) (progress backoff : Nat)
      (head : (s.queues.get g).entries = e :: rest) :
      Part g s (s.setQueue g { s.queues.get g with
        entries := { e with progress := progress, backoff := backoff } :: rest })
  /-- A failed write is counted (R102). -/
  | charge (n : LaneId) (count : Nat) (small : count ≤ 255) : Part g s (s.setFailedWrites n count)
  /-- An ISSUED entry becomes READY (R52, R55). -/
  | ready (i : EntryIndex) (o : EntryOutcome) (data : List Word) (progress backoff : Nat)
      (issued : s.dtt[i].state = .issued) :
      Part g s (s.setEntry i (DttEntry.makeReady s o
        { s.dtt[i] with readData := data, progress := progress, backoff := backoff }))
  /-- An ISSUED entry becomes PARTIAL (R52, R53). -/
  | partly (i : EntryIndex) (data : List Word) (progress backoff : Nat) (issued : s.dtt[i].state = .issued) :
      Part g s (s.setEntry i
        { s.dtt[i] with state := .partly, readData := data, progress := progress, backoff := backoff })
  /-- An ABANDONED entry becomes FREE (R63). -/
  | forget (i : EntryIndex) (abandoned : s.dtt[i].state = .abandoned) : Part g s (s.setEntry i DttEntry.cleared)
  /-- A refill is complete (R115). -/
  | refilled (i : SlotIndex) (held : List Word) (filling : s.slots[i].state = .filling) :
      Part g s (s.setSlot i { s.slots[i] with state := .holding, held := held, refill := none })
  /-- A refill goes on later (R115). -/
  | refillLater (i : SlotIndex) (p : PendingRefill) (held : List Word) (progress backoff : Nat)
      (filling : s.slots[i].state = .filling) (pending : s.slots[i].refill = some p) :
      Part g s (s.setSlot i { s.slots[i] with
        held := held, refill := some { p with progress := progress, backoff := backoff, inCycle := false } })
  /-- A slot whose refill failed, or that was RETIRING, becomes EMPTY (R116, R123). -/
  | clear (i : SlotIndex) (busy : s.slots[i].state = .filling ∨ s.slots[i].state = .retiring) :
      Part g s (s.setSlot i StreamSlot.cleared)

/-- The ending is one that the cycle can have (R130): DONE after word n, STOP before it. -/
abbrev Cycle.Ends (c : Cycle) (e : Ending) : Prop :=
  (e = .done → c.passed = c.words) ∧ (e = .stop → c.passed ≠ c.words)

/-- The state after the owner's handling of the end of a cycle, with the engine IDLE (R138 steps 1 and 4). -/
def finished (g : Segment) (c : Cycle) (e : Ending) (s : State) : State :=
  engineIdle g (ownerCycleEnd g c.item (c.result e) s).1

/-- A change that is neither of a handling nor of the end of a cycle; the advance of the timebase stands apart. -/
inductive Event (s : State) : State → Prop
  /-- RESET is released (R186). -/
  | powerOn : Event s (powerOn s)
  /-- A DOWN lane comes UP (R189). -/
  | arrive (n : LaneId) (down : s.lanes[n].state = .down) :
      Event s ((s.modifyLane n fun l => { l with state := .up, epoch := l.epoch + 1, rx := [], tx := [] }).setFailedWrites
        n 0)
  /-- A lane to which nothing belongs departs (R191). -/
  | leave (n : LaneId) (bare : s.bare n) : Event s (leaveLane n s)
  /-- A parcel is received (R187). -/
  | deliver (n : LaneId) (p : Parcel) (up : s.lanes[n].state = .up) (room : s.lanes[n].rx.length < 2) :
      Event s (s.modifyLane n fun l => { l with rx := l.rx ++ [p] })
  /-- A parcel is sent (R188). -/
  | send (n : LaneId) : Event s (s.modifyLane n Lane.sendFront)
  /-- A parcel leaves its receive buffer (R17). -/
  | take (n : LaneId) : Event s (beginTaking n s)
  /-- A response is placed (R18). -/
  | respond (n : LaneId) (r : Response) (up : s.lanes[n].state = .up) (room : s.lanes[n].responses < 2) :
      Event s (s.modifyLane n fun l => l.pushResponse r)
  /-- An ALERT is placed (R159, R160). -/
  | alert (m : LaneId) (manager : s.manager = some m) :
      Event s { s with
        lanes := s.lanes.set m (s.lanes[m].placeAlert s.log.records.length s.log.lost)
        log := { s.log with alertOutstanding := true } }
  /-- The head of a queue is granted (R80, R137). -/
  | grantW (g : Segment) (e : QueueEntry) (idle : (s.engine g).cycle = none) (enabled : (s.engine g).state = .enabled)
      (head : (s.queues.get g).entries.head? = some e) :
      Event s (s.setEngine g { s.engine g with lastWF := .w, cycle := some (e.cycle s g) })
  /-- An entry is granted (R51, R137). -/
  | grantF (g : Segment) (i : EntryIndex) (idle : (s.engine g).cycle = none) (enabled : (s.engine g).state = .enabled)
      (grantable : s.dtt[i].grantable g = true) :
      Event s ((s.setEntry i { s.dtt[i] with state := .issued }).setEngine g
        { s.engine g with lastWF := .f, cycle := some (s.dtt[i].cycle i s g) })
  /-- A refill is granted (R114, R137). -/
  | grantR (g : Segment) (i : SlotIndex) (r : PendingRefill) (idle : (s.engine g).cycle = none)
      (enabled : (s.engine g).state = .enabled) (listed : i ∈ s.refillOrder.get g)
      (grantable : s.slots[i].grantable = true) (pending : s.slots[i].refill = some r) :
      Event s ((s.setSlot i { s.slots[i] with refill := some { r with inCycle := true } }).setEngine g
        { s.engine g with cycle := some (r.cycle i s g) })
  /-- A target claims (R128). -/
  | claim (g : Segment) (c : Cycle) (cycle : (s.engine g).cycle = some c) :
      Event s (startCycle g { c with phase := .data s.timebase } s)
  /-- A word passes (R129). -/
  | word (g : Segment) (c : Cycle) (w : Word) (parity : BitVec 4) (cycle : (s.engine g).cycle = some c)
      (before : c.passed < c.words) : Event s (startCycle g (c.passWord w parity s.timebase) s)
  /-- The waiting entries of a segment become READY with SEGMENT-DOWN (R60). -/
  | segmentDown (g : Segment) : Event s (faultEntries g s)
  /-- A segment on which nothing waits and nothing is on the bus becomes FAULTED (R144, R145). -/
  | faulted (g : Segment) (idle : (s.engine g).cycle = none) (empty : (s.queues.get g).entries = [])
      (waits : ∀ i : EntryIndex, s.dtt[i].segment = g → s.dtt[i].state ≠ .queued ∧ s.dtt[i].state ≠ .partly)
      (slots : ∀ i : SlotIndex, s.slots[i].segment = g → s.slots[i].state = .empty ∨ s.slots[i].state = .retiring) :
      Event s (s.setEngine g { s.engine g with state := .faulted })

/-- One change of a step. -/
inductive Move (s : State) : State → Prop
  | work {t : State} (w : Work s t) : Move s t
  | event {t : State} (e : Event s t) : Move s t
  | finish (g : Segment) (c : Cycle) (e : Ending) (cycle : (s.engine g).cycle = some c) (ends : c.Ends e) :
      Move s (finished g c e s)

/-- A run of changes of a handling. -/
abbrev Works : State → State → Prop := Relation.ReflTransGen Work

/-- A run of changes of the end of a cycle. -/
abbrev Parts (g : Segment) : State → State → Prop := Relation.ReflTransGen (Part g)

/-- A run of changes. -/
abbrev Moves : State → State → Prop := Relation.ReflTransGen Move

theorem Works.moves {s t : State} (h : Works s t) : Moves s t :=
  Relation.ReflTransGen.mono (fun _ _ => Move.work) s t h

theorem Works.parts {s t : State} (g : Segment) (h : Works s t) : Parts g s t :=
  Relation.ReflTransGen.mono (fun _ _ => Part.work) s t h

/-- A property that one change of a run keeps is kept by the run. -/
theorem kept_by_run {r : State → State → Prop} {p : State → Prop} (h : ∀ s t, r s t → p s → p t) {s t : State}
    (run : Relation.ReflTransGen r s t) (hs : p s) : p t := by
  induction run with
  | refl => exact hs
  | tail _ last ih => exact h _ _ last ih

end Sys2Proof.Machine
end

section
/-! The handling of a parcel is a run of `Work` changes: the drops, refills, allocations and releases first, then the
handlers of READ, WRITE and FENCE, and the effects of the management operations. -/

namespace Sys2Proof.Machine

/-! ### Slots -/

theorem keptOrDropped_refl (v : Vector StreamSlot 4) : KeptOrDropped v v := fun _ => .inl rfl

theorem keptOrDropped_set (v : Vector StreamSlot 4) (i : SlotIndex) : KeptOrDropped v (v.set i v[i].drop) := by
  intro j
  rw [table_set]
  split
  · rename_i h
    exact .inr (by rw [h])
  · exact .inl rfl

theorem dropSlot_work (i : SlotIndex) (s : State) : Work s (dropSlot i s) := .drop _ (keptOrDropped_set s.slots i)

theorem dropSlots_work (p : StreamSlot → Bool) (s : State) : Work s (dropSlots p s) := by
  refine .drop _ fun i => ?_
  rw [mapAll_table]
  split
  · exact .inr rfl
  · exact .inl rfl

/-- A refill request is a pending refill and then the closure of the tail whose barrier it took (R113). -/
theorem requestRefill_works (i : SlotIndex) (s : State) : Works s (requestRefill i s) := by
  rcases requestRefill_cases i s with ⟨-, same⟩ | ⟨wants, requested⟩
  · rw [same]
  · rw [requested]
    exact .tail (.single (.refill i wants)) (.closeTail s.slots[i].segment)

theorem serveSlot_works (i : SlotIndex) (w : Nat) (s : State) : Works s (serveSlot i w s) := by
  unfold serveSlot
  dsimp only
  split
  · rename_i done
    refine .single (.drop _ fun j => ?_)
    rw [table_set]
    split
    · rename_i h
      subst h
      exact .inr (StreamSlot.drop_of_holding done.1).symm
    · exact .inl rfl
  · exact .head (.serve i w) (requestRefill_works i _)

/-! ### Allocation (R110, R111) -/

theorem StreamSlot.live_iff {x : StreamSlot} : x.live = true ↔ x.state = .holding ∨ x.state = .filling := by
  simp [StreamSlot.live]

theorem StreamSlot.live_drop (x : StreamSlot) : x.drop.live = false := by
  rcases x.drop_cases with ⟨same, h⟩ | ⟨cleared, -⟩ | ⟨retired, -⟩
  · rw [same]
    rcases h with h | h <;> simp [StreamSlot.live, h]
  · rw [cleared]
    rfl
  · rw [retired]
    rfl

/-- Two owners present on one lane are the same card. -/
theorem owner_eq_of_present {s : State} {o p : Owner} (ho : s.present o = true) (hp : s.present p = true)
    (lane : p.lane = o.lane) : p = o := by
  obtain ⟨n, e⟩ := o
  obtain ⟨m, f⟩ := p
  dsimp only at lane
  subst lane
  simp only [State.present, Bool.and_eq_true, decide_eq_true_eq] at ho hp
  rw [← ho.2, ← hp.2]

theorem ownSlot_some {s : State} {o : Owner} {i : SlotIndex} (h : ownSlot o s = some i) :
    s.slots[i].live = true ∧ s.slots[i].owner = o := by
  obtain ⟨hp, -⟩ := findFirst_eq_some.1 h
  simpa using hp

/-- A slot that serves for an owner's lane serves for the owner. -/
theorem owner_of_live {s : State} {o : Owner} {h : SlotIndex} (ok : OwnersOk s) (present : s.present o = true)
    (live : s.slots[h].live = true) (lane : s.slots[h].owner.lane = o.lane) : s.slots[h].owner = o :=
  owner_eq_of_present present (ok.2.1 h live) lane

/-- An owner without a slot of its own has none under its lane. -/
theorem alone_of_ownSlot_none {s : State} {o : Owner} (present : s.present o = true) (none : ownSlot o s = none)
    (ok : OwnersOk s) (h : SlotIndex) (live : s.slots[h].live = true) : s.slots[h].owner.lane ≠ o.lane := fun lane => by
  have other := findFirst_eq_none.1 none h
  rw [live, owner_of_live ok present live lane] at other
  simp at other

/-- The owner's own slot is the only one that serves its lane. -/
theorem alone_of_ownSlot_some {s : State} {o : Owner} {i : SlotIndex} (own : ownSlot o s = some i) (ok : OwnersOk s)
    (h : SlotIndex) (other : h ≠ i) (live : s.slots[h].live = true) : s.slots[h].owner.lane ≠ o.lane := by
  obtain ⟨live', owner⟩ := ownSlot_some own
  rw [← owner]
  exact ok.2.2.1 h i other live live'

/-- The slot that allocation chooses may be written. -/
theorem replaceable_of_chooseSlot {o : Owner} {s : State} {i : SlotIndex} (h : chooseSlot o s = some i) :
    s.slots[i].replaceable := (chooseSlot_state h).imp_right fun hold => .inl hold.1

/-- The owner's own slot may be written while its refill is in no cycle. -/
theorem replaceable_of_ownSlot {o : Owner} {s : State} {i : SlotIndex} (h : ownSlot o s = some i)
    (idle : s.slots[i].inCycle = false) : s.slots[i].replaceable :=
  .inr ((StreamSlot.live_iff.1 (ownSlot_some h).1).imp_right fun filling => ⟨filling, idle⟩)

/-- Of two changes of the slots the second decides which of them are left in the request order, when it makes no
pending refill. -/
theorem keptOrder_keptOrder {u v : Vector StreamSlot 4} (p : PerSegment (List SlotIndex))
    (h : ∀ i : SlotIndex, v[i].refill.isSome = true → u[i].refill.isSome = true) :
    keptOrder v (keptOrder u p) = keptOrder v p := by
  simp only [keptOrder, PerSegment.map, List.filter_filter]
  congr 1 <;> refine List.filter_congr fun i _ => ?_ <;> cases hv : v[i].refill.isSome <;> simp_all

theorem setSlots_setSlots {s : State} {u v : Vector StreamSlot 4}
    (h : ∀ i : SlotIndex, v[i].refill.isSome = true → u[i].refill.isSome = true) :
    (s.setSlots u).setSlots v = s.setSlots v :=
  congrArg (fun p => { s with slots := v, refillOrder := p }) (keptOrder_keptOrder s.refillOrder h)

/-- The allocation for a READY stream-flagged entry that is still in the table. -/
theorem allocateSlot_works {s : State} {j : EntryIndex} {o : Owner} (ready : s.dtt[j].state = .ready)
    (flagged : s.dtt[j].streamFlag = true) (present : s.present o = true) :
    Works s (allocateSlot o s.dtt[j].window s.dtt[j].segment s.dtt[j].address s.dtt[j].words s) := by
  by_cases declined : s.dtt[j].address.toNat + 4 * s.dtt[j].words = s.live[s.dtt[j].window].windowEnd ∨
      (s.engines.get s.dtt[j].segment).state = .faulted
  · rw [allocateSlot, if_pos declined]
  obtain ⟨inside, up⟩ := not_or.1 declined
  have filled (i : SlotIndex) (v : Vector StreamSlot 4) (dropped : KeptOrDropped s.slots v) (free : v[i].replaceable)
      (alone : OwnersOk s → ∀ h : SlotIndex, h ≠ i → v[h].live = true → v[h].owner.lane ≠ o.lane) :=
    Relation.ReflTransGen.head (Work.fill j o i v ready flagged inside up present dropped free alone)
      (requestRefill_works i _)
  rcases allocateSlot_cases o s.dtt[j].window s.dtt[j].segment s.dtt[j].address s.dtt[j].words s with
    same | ⟨i, own, idle, filledOwn⟩ | ⟨t, ⟨rfl, none⟩ | ⟨h, own, -, rfl⟩, ⟨-, result⟩ | ⟨i, chosen, result⟩⟩
  · rw [same]
  · rw [filledOwn]
    exact filled i s.slots (keptOrDropped_refl _) (replaceable_of_ownSlot own idle) (alone_of_ownSlot_some own)
  · rw [result]
  · rw [result]
    exact filled i t.slots (keptOrDropped_refl _) (replaceable_of_chooseSlot chosen)
      fun ok h _ => alone_of_ownSlot_none present none ok h
  · rw [result]
    exact .single (dropSlot_work h s)
  · have once : (dropSlot h s).setSlot i (newSlot o s.dtt[j].window s.dtt[j].segment
        (s.dtt[j].address + BitVec.ofNat 32 (4 * s.dtt[j].words)) (dropSlot h s)) =
        s.setSlots ((s.slots.set h s.slots[h].drop).set i (newSlot o s.dtt[j].window s.dtt[j].segment
          (s.dtt[j].address + BitVec.ofNat 32 (4 * s.dtt[j].words)) s)) := by
      refine setSlots_setSlots fun l => ?_
      rw [table_set]
      split
      · exact fun pending => absurd pending Bool.false_ne_true
      · exact id
    rw [result, fillSlot, once]
    refine filled i _ (keptOrDropped_set s.slots h) (replaceable_of_chooseSlot chosen) fun ok l _ => ?_
    rw [table_set]
    split
    · intro live
      rw [StreamSlot.live_drop] at live
      contradiction
    · exact alone_of_ownSlot_some own ok l (Ne.symm ‹_›)

/-! ### Collection (R29, R49)

The entry is freed before its slot is allocated; allocation does not read the table, so it may as well come first. -/

theorem requestRefill_setEntry (i : SlotIndex) (j : EntryIndex) (e : DttEntry) (s : State) :
    requestRefill i (s.setEntry j e) = (requestRefill i s).setEntry j e := by
  unfold requestRefill
  dsimp only
  rw [apply_ite fun t : State => t.setEntry j e]
  rfl

theorem takeSlot_setEntry (o : Owner) (k : WindowIndex) (g : Segment) (next : Word) (j : EntryIndex) (e : DttEntry)
    (s : State) : takeSlot o k g next (s.setEntry j e) = (takeSlot o k g next s).setEntry j e := by
  have chosen : chooseSlot o (s.setEntry j e) = chooseSlot o s := rfl
  unfold takeSlot
  rw [chosen]
  cases chooseSlot o s with
  | none => rfl
  | some i => exact requestRefill_setEntry i j e (s.setSlot i (newSlot o k g next s))

theorem allocateSlot_setEntry (o : Owner) (k : WindowIndex) (g : Segment) (a : Word) (w : Nat) (j : EntryIndex)
    (e : DttEntry) (s : State) :
    allocateSlot o k g a w (s.setEntry j e) = (allocateSlot o k g a w s).setEntry j e := by
  have own : ownSlot o (s.setEntry j e) = ownSlot o s := rfl
  unfold allocateSlot
  rw [own]
  cases ownSlot o s with
  | none =>
    dsimp only
    rw [takeSlot_setEntry]
    exact (apply_ite (fun t : State => t.setEntry j e) _ _ _).symm
  | some i =>
    have dropped : dropSlot i (s.setEntry j e) = (dropSlot i s).setEntry j e := rfl
    have filled (next : Word) : fillSlot o k g next i (s.setEntry j e) = (fillSlot o k g next i s).setEntry j e :=
      requestRefill_setEntry i j e (s.setSlot i (newSlot o k g next s))
    dsimp only
    rw [dropped, takeSlot_setEntry, filled, apply_ite fun t : State => t.setEntry j e,
      apply_ite fun t : State => t.setEntry j e]
    rfl

theorem DttEntry.release_of_ready {e : DttEntry} (h : e.state = .ready) : e.release = DttEntry.cleared := by
  simp [DttEntry.release, h]

/-- A READY entry is freed. -/
theorem clearReady_work {s : State} {i : EntryIndex} (ready : s.dtt[i].state = .ready) :
    Work s (s.setEntry i DttEntry.cleared) := by
  refine .release _ fun j => ?_
  rw [table_set]
  split
  · rename_i h
    subst h
    exact .inr (DttEntry.release_of_ready ready).symm
  · exact .inl rfl

theorem repeatOf_works {s : State} {o : Owner} (present : s.present o = true) (i : EntryIndex) :
    Works s (repeatOf o i s).1 := by
  unfold repeatOf collect
  split
  · rename_i ready
    dsimp only
    split
    · rename_i stream
      dsimp only
      rw [allocateSlot_setEntry]
      refine .tail (allocateSlot_works ready stream.2.2 present) (clearReady_work ?_)
      rw [allocateSlot_frame]
      exact ready
    · exact .single (clearReady_work ready)
  · exact .refl

/-! ### READ (R26 to R33) -/

/-- The owner that a parcel of an UP lane acts for is present. -/
theorem present_currentOwner {s : State} {n : LaneId} (up : s.lanes[n].state = .up) :
    s.present (s.currentOwner n) = true :=
  Bool.and_eq_true_iff.2 ⟨decide_eq_true up, decide_eq_true rfl⟩

theorem contains_of_lookup {bank : Vector WindowRecord 24} {a : Word} {k : WindowIndex} (h : lookup bank a = some k) :
    bank[k].contains a = true := (findFirst_eq_some.1 h).1

/-- An admitted request that passed the form check is placed in its window. -/
theorem placed_of_admitted {s : State} {n : LaneId} {x : Access} {a : Word} {k : WindowIndex} {w : Nat}
    (span : spanOk a w = true) (h : Admitted s n x a k) : Placed s k a w := by
  obtain ⟨found, -, -, up⟩ := h
  exact ⟨span, contains_of_lookup found, up⟩

/-- A creation is a new entry and then the closure of the tail whose barrier it took (R42, R45). -/
theorem createEntry_works {s t : State} {o : Owner} {kind : EntryKind} {a : Word} {w : Nat} {ws : List WriteWord}
    {k : WindowIndex} (unmatched : matchEntry o kind a w ws s = none) (present : s.present o = true)
    (placed : Placed s k a w) (h : createEntry o kind a w ws k s = some t) : Works s t := by
  rcases createEntry_cases o kind a w ws k s with ⟨nothing, -⟩ | ⟨i, free, -, -, created⟩
  · rw [nothing] at h
    contradiction
  · rw [created] at h
    obtain rfl := Option.some.inj h
    exact .tail (.single (.create i o kind a w ws k free unmatched present placed))
      (.closeTail s.live[k].segment)

/-- What the handling of a parcel of lane n may change. -/
abbrev Handles (n : LaneId) (h : Handler) : Prop := ∀ s : State, s.lanes[n].state = .up → Works s (h s).1

theorem readMatch_handles {a : Word} {w : Nat} (span : spanOk a w = true) (n : LaneId) :
    Handles n (readMatch n a w) := by
  intro s up
  unfold readMatch
  cases unmatched : matchEntry (s.currentOwner n) .read a w [] s with
  | some i => exact repeatOf_works (present_currentOwner up) i
  | none =>
    unfold readNew
    rcases checkWindow_cases n .read a s with ⟨r, answered, -⟩ | ⟨k, admitted, passed⟩
    · rw [answered]
    · rw [passed]
      dsimp only
      cases created : createEntry (s.currentOwner n) .read a w [] k s with
      | none => exact .refl
      | some t =>
        exact createEntry_works unmatched (present_currentOwner up) (placed_of_admitted span admitted) created

theorem readStream_handles {a : Word} {w : Nat} (span : spanOk a w = true) (n : LaneId) :
    Handles n (readStream n a w) := by
  intro s up
  unfold readStream
  split
  · exact readMatch_handles span n s up
  · rename_i i own
    split
    · unfold readServed
      split
      · exact serveSlot_works i w s
      · exact .refl
    · split
      · exact .head (dropSlot_work i s) (readMatch_handles span n (dropSlot i s) up)
      · exact readMatch_handles span n s up

theorem gated_handles {n : LaneId} {h : Handler} (hh : Handles n h) : Handles n (gated h) := by
  intro s up
  unfold gated
  split
  · exact .refl
  · exact hh s up

/-! ### WRITE (R28, R33 to R35) -/

theorem acceptPosted_works {s t : State} {o : Owner} {k : WindowIndex} {a : Word} {ws : List WriteWord}
    (placed : Placed s k a ws.length) (h : acceptPosted o k (s.live[k].translate a) ws s = some t) : Works s t := by
  rcases acceptPosted_cases o k (s.live[k].translate a) ws s with
    ⟨e, tail, merges, merged⟩ | ⟨-, room, pushed⟩ | ⟨-, -, nothing⟩
  · rw [merged] at h
    obtain rfl := Option.some.inj h
    exact .single (.merge o k a ws e tail merges placed)
  · rw [pushed] at h
    obtain rfl := Option.some.inj h
    exact .single (.push o k a ws room placed)
  · rw [nothing] at h
    contradiction

theorem writeMatch_handles {a : Word} {ws : List WriteWord} (span : spanOk a ws.length = true) (n : LaneId) :
    Handles n (writeMatch n a ws) := by
  intro s up
  unfold writeMatch
  cases unmatched : matchEntry (s.currentOwner n) .ackedWrite a ws.length ws s with
  | some i => exact repeatOf_works (present_currentOwner up) i
  | none =>
    unfold writeNew
    rcases checkWindow_cases n .write a s with ⟨r, answered, -⟩ | ⟨k, admitted, passed⟩
    · rw [answered]
    · rw [passed]
      have placed := placed_of_admitted span admitted
      dsimp only
      split
      · split
        · rename_i t accepted
          exact .tail (acceptPosted_works placed accepted) (dropSlots_work _ t)
        · exact .refl
      · split
        · rename_i t created
          exact .tail (createEntry_works unmatched (present_currentOwner up) placed created) (dropSlots_work _ t)
        · exact .refl
      · exact .refl

/-! ### FENCE (R94, R95) -/

theorem fenceAnswer_handles (n : LaneId) : Handles n (fenceAnswer n) := by
  intro s up
  have completed : Works s (completeFence n s).1 := .single (.clearFence n)
  unfold fenceAnswer
  split
  · split
    · exact completed
    · exact .refl
  · dsimp only
    split
    · exact .tail (.tail (.single (.fence n up)) (.closeTail .a)) (.closeTail .b)
    · exact completed

end Sys2Proof.Machine
end

section
/-! The effects of the management operations are runs of `Work` changes too; the taking of a parcel, the end of a cycle
and every other event is a run of changes; and with that every command is. -/

namespace Sys2Proof.Machine

/-! ### The effects of the management operations (chapter 9) -/

/-- What the effect of a management operation from lane n may change. -/
abbrev Effects (effect : LaneId → List Word → State → Option (State × Reply)) : Prop :=
  ∀ n args (s : State), s.lanes[n].state = .up → ∀ out ∈ effect n args s, Works s out.1

/-- The records of one event are handed one by one (R156). -/
theorem handRecords_works (bs : List RecordBody) (s : State) : Works s (handRecords bs s) := by
  induction bs generalizing s with
  | nil => exact .refl
  | cons b bs ih => exact .head (.record b) (ih { s with log := s.log.hand s.timebase b })

/-- Words that STAGE WINDOW reads as a record give the cleared record or one that passes the checks (R2, R6). -/
theorem ok_of_ofWords {w0 w1 w2 w3 : Word} {w : WindowRecord} (h : WindowRecord.ofWords w0 w1 w2 w3 = some w) :
    w.ok = true := by
  unfold WindowRecord.ofWords at h
  split at h
  · obtain rfl := Option.some.inj h
    decide
  · split at h
    · dsimp only at h
      split at h
      · rename_i checks
        obtain rfl := Option.some.inj h
        simp only [Bool.and_eq_true] at checks
        exact Bool.or_eq_true_iff.2 (.inr checks.1.1)
      · contradiction
    · contradiction

/-- SET PARAMETER keeps every parameter in its range (R174, R175). -/
theorem Parameters.inRange_update {p q : Parameters} {k v : Nat} (h : p.update k v = some q) (ok : p.inRange) :
    q.inRange := by
  unfold Parameters.update at h
  unfold Parameters.inRange at ok ⊢
  split at h
  case h_11 => contradiction
  all_goals
    obtain ⟨range, accepted⟩ := Option.ite_none_right_eq_some.1 h
    obtain rfl := Option.some.inj accepted
    dsimp only
    omega

theorem stageWindow_effects : Effects stageWindowEffect := by
  intro n args s _ out h
  unfold stageWindowEffect at h
  split at h
  · split at h
    · obtain rfl := Option.some.inj h
      exact .single (.stage _ _ (ok_of_ofWords ‹_›))
    · contradiction
  · contradiction

theorem readWindow_effects : Effects readWindowEffect := by
  intro n args s _ out h
  unfold readWindowEffect at h
  split at h
  · split at h
    · obtain rfl := Option.some.inj h
      exact .refl
    · contradiction
  · contradiction

theorem commit_effects : Effects commitEffect := by
  intro n args s _ out h
  obtain rfl := Option.some.inj h
  exact .tail (.tail (.tail (.single .commit) (dropSlots_work _ _)) (.closeTail .a)) (.closeTail .b)

theorem setParameter_effects : Effects setParameterEffect := by
  intro n args s _ out h
  unfold setParameterEffect at h
  split at h
  · split at h
    · obtain rfl := Option.some.inj h
      exact .single (.params _ (Parameters.inRange_update ‹_›))
    · contradiction
  · contradiction

theorem getParameter_effects : Effects getParameterEffect := by
  intro n args s _ out h
  unfold getParameterEffect at h
  split at h
  · split at h
    · obtain rfl := Option.some.inj h
      exact .refl
    · contradiction
  · contradiction

theorem Engine.enable_cases (e : Engine) :
    e.enable = { e with state := .enabled, failures := e.failures } ∨
      e.enable = { e with state := .enabled, failures := 0 } := by
  by_cases h : e.state = .enabled
  · rw [Engine.enable_of_enabled h, ← h]
    exact .inl rfl
  · exact .inr (Engine.enable_of_not_enabled h)

theorem segmentEnable_effects : Effects segmentEnableEffect := by
  intro n args s _ out h
  unfold segmentEnableEffect at h
  split at h
  · rename_i g _
    obtain rfl := Option.some.inj h
    rcases (s.engine g).enable_cases with e | e
    all_goals
      rw [e]
      exact .single (.mark g .enabled _ (.inl (by decide)) (by simp))
  · contradiction

theorem segmentDisable_effects : Effects segmentDisableEffect := by
  intro n args s _ out h
  unfold segmentDisableEffect at h
  split at h
  · rename_i g _
    obtain rfl := Option.some.inj h
    exact .single (.mark g .disabled _ (.inl (by decide)) (.inr rfl))
  · contradiction

theorem drain_effects : Effects drainEffect := by
  intro n args s _ out h
  unfold drainEffect at h
  split at h
  · split at h
    · obtain rfl := Option.some.inj h
      exact .single (.drain none (.inl rfl))
    · obtain rfl := Option.some.inj h
      exact .refl
  · split at h
    · obtain rfl := Option.some.inj h
      exact .refl
    · obtain rfl := Option.some.inj h
      exact .tail (.tail (.single (.drain _ (.inr rfl))) (.closeTail .a)) (.closeTail .b)

theorem releaseEntries_work (p : DttEntry → Bool) (s : State) : Work s (releaseEntries p s).1 := by
  refine .release _ fun i => ?_
  rw [mapAll_table]
  split
  · exact .inr rfl
  · exact .inl rfl

/-- The release of a lane's items (R191, R193). -/
theorem releaseLane_works (n : LaneId) (s : State) : Works s (releaseLane n s).1 :=
  .tail (.tail (.single (releaseEntries_work _ s)) (dropSlots_work _ _)) (.clearFence n)

theorem DttEntry.matchable_release (e : DttEntry) : e.release.matchable = false := by
  rcases e.release_cases with ⟨same, h⟩ | ⟨cleared, -⟩ | ⟨abandoned, -⟩
  · rw [same]
    rcases h with h | h <;> simp [DttEntry.matchable, h]
  · rw [cleared]
    rfl
  · rw [abandoned]
    rfl

/-- Nothing belongs to a lane whose items were released. -/
theorem releaseLane_bare (n : LaneId) (s : State) : (releaseLane n s).1.bare n where
  entries i h := by
    have entry : (releaseLane n s).1.dtt[i] =
        if decide (s.dtt[i].owner.lane = n) = true then s.dtt[i].release else s.dtt[i] := mapAll_table ..
    rw [entry] at h ⊢
    split
    · exact s.dtt[i].matchable_release
    · rename_i other
      rw [if_neg other] at h
      exact absurd (decide_eq_true h) other
  slots i h := by
    have slot : (releaseLane n s).1.slots[i] =
        if decide (s.slots[i].owner.lane = n) = true then s.slots[i].drop else s.slots[i] := mapAll_table ..
    rw [slot] at h ⊢
    split
    · exact s.slots[i].live_drop
    · rename_i other
      rw [if_neg other] at h
      exact absurd (decide_eq_true h) other
  fence := table_set_self ..

/-- A purge: the items are released, and then the lane takes its next epoch; the release does not read it. -/
theorem purge_works (m : LaneId) (s : State) : Works s (releaseLane m (advanceEpoch m s)).1 :=
  .tail (releaseLane_works m s) (.epoch m (releaseLane_bare m s))

theorem purgeLane_effects : Effects purgeLaneEffect := by
  intro n args s _ out h
  unfold purgeLaneEffect at h
  split at h
  · split at h
    · split at h
      · contradiction
      · rename_i m _ _
        obtain rfl := Option.some.inj h
        exact (purge_works m s).trans (handRecords_works _ _)
    · contradiction
  · contradiction

/-- Steps 3 to 6 of R182. -/
theorem releaseAll_works (s : State) : Works s (releaseAll s) := by
  have work := Relation.ReflTransGen.tail (.tail (.single (releaseEntries_work (fun _ => true) s))
    (dropSlots_work (fun _ => true) _)) .freeRecords
  exact .tail (.tail (.tail work (.mark .a _ 0 (.inr rfl) (.inl (by decide))))
    (.mark .b _ 0 (.inr rfl) (.inl (by decide)))) (.gate .closed)

/-- Steps 1 to 6 of R182. -/
theorem resetWork_works (s : State) : Works s (resetWork s).1 := by
  have discards : Works s (discardBoth s) := .tail (.single (.discard .a .brokerReset)) (.discard .b .brokerReset)
  rw [resetWork_state]
  exact discards.trans (releaseAll_works _)

theorem brokerReset_effects : Effects brokerResetEffect := by
  intro n args s _ out h
  obtain rfl := Option.some.inj h
  exact (resetWork_works s).trans (handRecords_works _ _)

/-! ### The handlers of the twenty intake commands -/

theorem manage_handles {op : MgmtOp} {effect : LaneId → List Word → State → Option (State × Reply)}
    (h : Effects effect) (n : LaneId) (args : List Word) : Handles n (manage op effect n args) := by
  intro s up
  rcases manage_cases op effect n args s with ⟨r, refused, -⟩ | ⟨out, -, -, effects, done⟩
  · rw [refused]
  · rw [done]
    exact h n args s up out effects

/-- A READ that passes the form check asks for 1 to 16 words of one block (R24). -/
theorem spanOk_of_read {p : Parcel} {a : Word} {w : Nat} (h : requestOf p = .read a w) : spanOk a w = true := by
  unfold requestOf at h
  split at h
  · contradiction
  · split at h
    · split at h
      · rename_i form
        obtain ⟨rfl, rfl⟩ := Request.read.inj h
        exact (Bool.and_eq_true_iff.1 form).1
      · contradiction
    · split at h <;> contradiction
    · split at h <;> contradiction
    · split at h
      · split at h <;> contradiction
      · contradiction
    · contradiction

theorem writeWordsOf_length (n : Nat) (payload : List Word) : (writeWordsOf n payload).length = n := by
  simp [writeWordsOf]

/-- A WRITE that passes the form check asks for 1 to 16 words of one block (R24). -/
theorem spanOk_of_write {p : Parcel} {a : Word} {ws : List WriteWord} (h : requestOf p = .write a ws) :
    spanOk a ws.length = true := by
  unfold requestOf at h
  split at h
  · contradiction
  · split at h
    · split at h <;> contradiction
    · split at h
      · rename_i form
        obtain ⟨rfl, rfl⟩ := Request.write.inj h
        rw [writeWordsOf_length]
        exact (Bool.and_eq_true_iff.1 (Bool.and_eq_true_iff.1 form).1).1
      · contradiction
    · split at h <;> contradiction
    · split at h
      · split at h <;> contradiction
      · contradiction
    · contradiction

/-- Every handler of a row is a run of `Work` changes on the state without the parcel. -/
abbrev RowWorks (handler : LaneId → Request → Option Handler) : Prop :=
  ∀ (n : LaneId) (p : Parcel), ∀ h ∈ handler n (requestOf p), Handles n h

/-! ### What a handling leaves of the lanes (R18) -/

/-- A handling changes no buffer and no state of a lane, neither the last lane granted nor the commands that wait. -/
abbrev LanesKept (s t : State) : Prop :=
  (∀ m : LaneId, t.lanes[m].state = s.lanes[m].state ∧ t.lanes[m].rx = s.lanes[m].rx ∧ t.lanes[m].tx = s.lanes[m].tx) ∧
    t.lastGranted = s.lastGranted ∧ t.pending = s.pending

theorem lanesKept_of_lanes_eq {s t : State} (lanes : t.lanes = s.lanes) (last : t.lastGranted = s.lastGranted)
    (pending : t.pending = s.pending) : LanesKept s t :=
  ⟨fun m => by rw [lanes]; exact ⟨rfl, rfl, rfl⟩, last, pending⟩

theorem Work.lanesKept {s t : State} (w : Work s t) : LanesKept s t := by
  cases w with
  | epoch m =>
    refine ⟨fun l => ?_, rfl, rfl⟩
    have lanes : (advanceEpoch m s).lanes = s.lanes.set m { s.lanes[m] with epoch := s.lanes[m].epoch + 1 } := rfl
    rw [lanes, table_set]
    split
    · rename_i h
      rw [h]
      exact ⟨rfl, rfl, rfl⟩
    · exact ⟨rfl, rfl, rfl⟩
  | discard g c => rw [discardQueue_frame]; exact lanesKept_of_lanes_eq rfl rfl rfl
  | _ => exact lanesKept_of_lanes_eq rfl rfl rfl

theorem Works.lanesKept {s t : State} (h : Works s t) : LanesKept s t := by
  induction h with
  | refl => exact lanesKept_of_lanes_eq rfl rfl rfl
  | tail _ last ih =>
    obtain ⟨lanes, granted, pending⟩ := ih
    obtain ⟨lanes', granted', pending'⟩ := last.lanesKept
    refine ⟨fun m => ?_, granted'.trans granted, pending'.trans pending⟩
    obtain ⟨state, rx, tx⟩ := lanes m
    obtain ⟨state', rx', tx'⟩ := lanes' m
    exact ⟨state'.trans state, rx'.trans rx, tx'.trans tx⟩

/-! ### The taking of a parcel (R18) -/

theorem alertTrigger_moves (s : State) : Moves s (alertTrigger s) := by
  rcases alertTrigger_cases s with same | ⟨m, manager, -, -, placed⟩
  · rw [same]
  · rw [placed]
    exact .single (.event (.alert m manager))

theorem Lane.eligible_iff {l : Lane} : l.eligible = true ↔ l.state = .up ∧ l.rx ≠ [] ∧ l.responses < 2 := by
  simp [Lane.eligible, Config.responseLimit, and_assoc]

/-- A response placed on an UP lane with room for it, and then the trigger. -/
theorem respond_moves {n : LaneId} {s : State} (up : s.lanes[n].state = .up) (room : s.lanes[n].responses < 2)
    (tag : BitVec 4) (r : Reply) : Moves s (respond n tag r s) := by
  have placed := Move.event (Event.respond n ⟨r.status, tag, r.info, r.data⟩ up room)
  unfold respond
  dsimp only
  split
  · exact .head placed (alertTrigger_moves _)
  · exact .single placed

/-- The taking of a parcel: it leaves its buffer, it is handled, and its response is placed. -/
theorem takeParcel_moves {handler : LaneId → Request → Option Handler} (rows : RowWorks handler) (s : State) :
    Moves s (takeParcel handler s) := by
  rcases takeParcel_cases handler s with same | ⟨⟨n, p⟩, h, taken, handled, result⟩
  · rw [same]
  · obtain ⟨up, -, room⟩ := Lane.eligible_iff.1 (nextTaking_some taken).1
    have kept : (beginTaking n s).lanes[n].tx = s.lanes[n].tx := by
      rw [beginTaking_lanes_self, table_set_self]
    have work : Works (beginTaking n s) (h (beginTaking n s)).1 :=
      rows n p h handled _ ((beginTaking_lane n n s).1.trans up)
    obtain ⟨state, -, tx⟩ := work.lanesKept.1 n
    rw [result]
    refine (Relation.ReflTransGen.head (.event (.take n)) work.moves).trans (respond_moves ?_ ?_ (tagOf p) _)
    · rw [state, (beginTaking_lane n n s).1, up]
    · unfold Lane.responses at room ⊢
      rwa [tx, kept]

/-! ### Records (R156) -/

theorem recordEvent_moves (bs : List RecordBody) (s : State) : Moves s (recordEvent bs s) := by
  unfold recordEvent
  split
  · exact .refl
  · exact (handRecords_works bs s).moves.trans (alertTrigger_moves _)

/-! ### The lanes (R187 to R191) -/

theorem departLane_moves (n : LaneId) (s : State) : Moves s (departLane n s) := by
  have departs : departed n s = leaveLane n (releaseLane n s).1 := by
    rw [departed, leaveLane_fields, leaveLane_fields]
    rfl
  rw [departLane_eq, departs]
  exact (Relation.ReflTransGen.tail (releaseLane_works n s).moves (.event (.leave n (releaseLane_bare n s)))).trans
    (recordEvent_moves _ _)

theorem arrivalEvent_moves (n : LaneId) (s : State) : Moves s (arrivalEvent n s) := by
  unfold arrivalEvent
  split
  · exact .single (.event (.arrive n ‹_›))
  · exact .refl

theorem departureEvent_moves (n : LaneId) (s : State) : Moves s (departureEvent n s) := by
  unfold departureEvent
  split
  · exact departLane_moves n s
  · exact .refl

theorem deliveryEvent_moves (n : LaneId) (p : Parcel) (s : State) : Moves s (deliveryEvent n p s) := by
  unfold deliveryEvent
  split
  · split
    · exact .single (.event (.deliver n p ‹_› ‹_›))
    · exact departLane_moves n s
  · exact .refl

/-! ### The engines (R128 to R144) -/

theorem grantEvent_moves (g : Segment) (s : State) : Moves s (grantEvent g s) := by
  rcases grantEvent_cases g s with same | ⟨item, idle, enabled, chosen, started⟩
  · rw [same]
  · rw [started]
    rcases arbiter_cases chosen with ⟨e, -, rfl⟩ | ⟨i, hf, rfl⟩ | ⟨i, hr, rfl⟩
    · cases head : (s.queues.get g).entries.head? with
      | none => simp only [startItem, head]; exact .refl
      | some d =>
        have granted := Event.grantW g d idle enabled head
        simp only [startItem, head]
        refine .single (.event ?_)
        simpa [startCycle, markWF, State.setEngine, State.engine] using granted
    · have granted := Event.grantF g i idle enabled (candidateF_grantable hf)
      refine .single (.event ?_)
      simpa [startItem, startCycle, markWF, State.setEngine, State.engine] using granted
    · obtain ⟨listed, grantable⟩ := candidateR_grantable hr
      cases pending : s.slots[i].refill with
      | none => simp only [startItem, pending]; exact .refl
      | some r =>
        simp only [startItem, pending]
        exact .single (.event (.grantR g i r idle enabled listed grantable pending))

theorem claimEvent_moves (g : Segment) (s : State) : Moves s (claimEvent g s) := by
  unfold claimEvent
  split
  · rename_i c cycle
    split
    · split
      · exact .single (.event (.claim g c cycle))
      · exact .refl
    · exact .refl
  · exact .refl

theorem wordEvent_moves (g : Segment) (w : Word) (parity : BitVec 4) (s : State) :
    Moves s (wordEvent g w parity s) := by
  unfold wordEvent
  split
  · rename_i c cycle
    split
    · rename_i passes
      exact .single (.event (.word g c w parity cycle passes.2))
    · exact .refl
  · exact .refl

/-! The engine may as well be IDLE before the count and the fault test: neither reads the cycle. -/

theorem discardEntries_setEngine (g h : Segment) (x : Engine) (es : List QueueEntry) (s : State) :
    discardEntries g es (s.setEngine h x) = (discardEntries g es s).setEngine h x := by
  induction es generalizing s with
  | nil => rfl
  | cons e es ih =>
    have met : meetBarriers g e.seq (s.setEngine h x) = (meetBarriers g e.seq s).setEngine h x := rfl
    have counted (t : State) : countFailedWrite e.owner (t.setEngine h x) = (countFailedWrite e.owner t).setEngine h x := by
      unfold countFailedWrite
      rw [apply_ite fun u : State => u.setEngine h x]
      rfl
    rw [discardEntries_cons, met, counted, ih, discardEntries_cons]

theorem faultSegment_engineIdle (g : Segment) (f : FailReason) (s : State) :
    (faultSegment g f (engineIdle g s)).1 = engineIdle g (faultSegment g f s).1 := by
  have counts : (discardEntries g (s.queues.get g).entries (engineIdle g s)).failedWrites =
      (discardEntries g (s.queues.get g).entries s).failedWrites := by
    rw [engineIdle, discardEntries_setEngine]
    rfl
  have idle : (faultSegment g f (engineIdle g s)).1 = _ := faultSegment_eq g f (engineIdle g s)
  have busy : (faultSegment g f s).1 = _ := faultSegment_eq g f s
  rw [idle, busy]
  dsimp only [engineIdle, State.setEngine, State.engine] at counts ⊢
  rw [counts]
  simp only [PerSegment.get_set_self, PerSegment.set_set]
  rfl

end Sys2Proof.Machine
end

section
/-! The end of a cycle, the timers, and with them every command, as runs of changes; and the property that a step keeps
because every change keeps it. -/

namespace Sys2Proof.Machine

/-! ### The end of a cycle (R138 to R144) -/

theorem StreamSlot.drop_state (x : StreamSlot) : x.drop.state = .empty ∨ x.drop.state = .retiring := by
  rcases x.drop_cases with ⟨same, h⟩ | ⟨cleared, -⟩ | ⟨retired, -⟩
  · rwa [same]
  · rw [cleared]
    exact .inl rfl
  · rw [retired]
    exact .inr rfl

/-- No entry of a segment waits after the SEGMENT-DOWN of its waiting entries (R60). -/
theorem faultEntries_waits (g : Segment) (s : State) (i : EntryIndex) (h : (faultEntries g s).dtt[i].segment = g) :
    (faultEntries g s).dtt[i].state ≠ .queued ∧ (faultEntries g s).dtt[i].state ≠ .partly := by
  have entry : (faultEntries g s).dtt[i] =
      if s.dtt[i].segment = g ∧ (s.dtt[i].state = .queued ∨ s.dtt[i].state = .partly) then
        s.dtt[i].makeReady s (.failed .segmentDown) else s.dtt[i] := mapAll_table ..
  rw [entry] at h ⊢
  split
  · exact ⟨by simp [DttEntry.makeReady], by simp [DttEntry.makeReady]⟩
  · rename_i other
    rw [if_neg other] at h
    exact not_or.1 fun waits => other ⟨h, waits⟩

/-- A fault on an IDLE engine: the discard, the SEGMENT-DOWN of the waiting entries, the drop of the slots, and then the
segment state (R144). -/
theorem faultSegment_moves {g : Segment} {s : State} (idle : (s.engine g).cycle = none) (f : FailReason) :
    Moves s (faultSegment g f s).1 := by
  let d := (discardQueue g .segmentFault s).1
  let t := dropSlots (fun x => x.segment = g) (faultEntries g d)
  have steps : Moves s t := .tail (.tail (.single (.work (.discard g .segmentFault))) (.event (.segmentDown g)))
    (.work (dropSlots_work _ _))
  have engines : t.engines = s.engines := by
    simp only [t, d, dropSlots_engines]
    rw [faultEntries_frame, discardQueue_frame]
  have queues : t.queues = d.queues := by
    simp only [t, dropSlots_queues]
    rfl
  refine .tail steps (.event (.faulted g ?_ ?_ (faultEntries_waits g d) fun i h => ?_))
  · rw [State.engine, engines]
    exact idle
  · rw [queues, show d = _ from discardQueue_fields g .segmentFault s, PerSegment.get_set_self]
  · have slot : t.slots[i] = if (faultEntries g d).slots[i].segment = g then (faultEntries g d).slots[i].drop
        else (faultEntries g d).slots[i] := by
      simp only [t, dropSlots, State.setSlots_slots, mapAll_table, decide_eq_true_eq]
    rw [slot] at h ⊢
    split
    · exact StreamSlot.drop_state _
    · rename_i other
      rw [if_neg other] at h
      exact absurd h other

/-- The consecutive-failure count stays where it is or within its range (R141). -/
theorem Cycle.nextFailures_small (c : Cycle) (o : CycleOutcome) (count : Nat) :
    c.nextFailures o count ≤ 255 ∨ c.nextFailures o count = count := by
  unfold Cycle.nextFailures
  split
  · exact .inl (Nat.min_le_right _ _)
  · split
    · exact .inr rfl
    · exact .inl (by decide)

/-- The count on an engine made IDLE before or after it. -/
theorem engineIdle_countOutcome (g : Segment) (c : Cycle) (o : CycleOutcome) (s : State) :
    engineIdle g (countOutcome g c o s) = (engineIdle g s).setEngine g
      { (engineIdle g s).engine g with
        state := ((engineIdle g s).engine g).state
        failures := c.nextFailures o ((engineIdle g s).engine g).failures } := by
  simp only [engineIdle, countOutcome, State.setEngine, State.engine, PerSegment.get_set_self, PerSegment.set_set]

theorem endCycle_moves {g : Segment} {c : Cycle} {e : Ending} {s : State} (cycle : (s.engine g).cycle = some c)
    (ends : c.Ends e) : Moves s (endCycle g c e s) := by
  let o := (c.result e).outcome
  let u := (ownerCycleEnd g c.item (c.result e) s).1
  have counted : Moves s (engineIdle g (countOutcome g c o u)) := by
    rw [engineIdle_countOutcome]
    exact .tail (.single (.finish g c e cycle ends)) (.work (.mark g _ _ (.inr rfl) (c.nextFailures_small o _)))
  have tested : Moves s (engineIdle g (faultTest g c o (countOutcome g c o u)).1) := by
    rcases faultTest_cases g c o (countOutcome g c o u) with same | ⟨f, -, -, fault⟩
    · rw [same]
      exact counted
    · rw [fault, ← faultSegment_engineIdle]
      refine counted.trans (faultSegment_moves ?_ f)
      simp only [engineIdle, State.engine, State.setEngine, PerSegment.get_set_self]
  exact tested.trans (recordEvent_moves _ _)

/-- What a target's signal is taken as: FAULT as itself, and any other by the words that have passed (R130). -/
theorem endingAt_cases (k n : Nat) (x : TargetEnding) :
    endingAt k n x = .fault ∨ (k = n ∧ endingAt k n x = .done) ∨
      (k ≠ n ∧ (endingAt k n x = .backoff ∨ endingAt k n x = .stop)) := by
  by_cases signalled : x = .fault
  · exact .inl (by rw [signalled]; rfl)
  · have byCount : endingAt k n x = if k = n then .done else if k = 0 then .backoff else .stop := by
      cases x with
      | fault => contradiction
      | done => rfl
      | stop => rfl
      | backoff => rfl
    rw [byCount]
    by_cases last : k = n
    · exact .inr (.inl ⟨last, if_pos last⟩)
    · rw [if_neg last]
      exact .inr (.inr ⟨last, ite_eq_or_eq _ _ _⟩)

theorem Cycle.ends_endingAt (c : Cycle) (x : TargetEnding) : c.Ends (endingAt c.passed c.words x) := by
  rcases endingAt_cases c.passed c.words x with e | ⟨last, e⟩ | ⟨before, e | e⟩
  · simp [Cycle.Ends, e]
  · refine ⟨fun _ => last, fun stops => ?_⟩
    rw [e] at stops
    contradiction
  · simp [Cycle.Ends, e]
  · simp [Cycle.Ends, e, before]

theorem cycleEndEvent_moves (g : Segment) (x : TargetEnding) (s : State) : Moves s (cycleEndEvent g x s) := by
  unfold cycleEndEvent
  split
  · rename_i c cycle
    split
    · exact endCycle_moves cycle (c.ends_endingAt x)
    · exact .refl
  · exact .refl

theorem claimLimitEvent_moves (g : Segment) (s : State) : Moves s (claimLimitEvent g s) := by
  unfold claimLimitEvent
  split
  · split
    · exact endCycle_moves ‹_› ⟨by simp, by simp⟩
    · exact .refl
  · exact .refl

theorem holdLimitEvent_moves (g : Segment) (s : State) : Moves s (holdLimitEvent g s) := by
  unfold holdLimitEvent
  split
  · split
    · exact endCycle_moves ‹_› ⟨by simp, by simp⟩
    · exact .refl
  · exact .refl

/-! ### The timers (R57, R78, R120) -/

theorem discardEvent_moves (i : EntryIndex) (s : State) : Moves s (discardEvent i s) := by
  unfold discardEvent
  split
  · rename_i due
    exact .head (.work (clearReady_work due.1)) (recordEvent_moves _ _)
  · exact .refl

theorem closeTimeEvent_moves (g : Segment) (s : State) : Moves s (closeTimeEvent g s) := by
  unfold closeTimeEvent
  split
  · split
    · exact .single (.work (.closeTail g))
    · exact .refl
  · exact .refl

theorem idleEvent_moves (i : SlotIndex) (s : State) : Moves s (idleEvent i s) := by
  unfold idleEvent
  split
  · exact .single (.work (dropSlot_work i s))
  · exact .refl

/-- Events taken for each index in turn. -/
theorem foldl_moves {α : Type} {event : α → State → State} (h : ∀ a s, Moves s (event a s)) (l : List α) (s : State) :
    Moves s (l.foldl (fun t a => event a t) s) := by
  induction l generalizing s with
  | nil => exact .refl
  | cons a l ih => exact (h a s).trans (ih (event a s))

theorem takeDue_moves (s : State) : Moves s (takeDue s) := by
  have closed := (closeTimeEvent_moves .a s).trans (closeTimeEvent_moves .b _)
  have discarded := closed.trans (foldl_moves discardEvent_moves (List.finRange 16) _)
  have dropped := discarded.trans (foldl_moves idleEvent_moves (List.finRange 4) _)
  have claimed := (dropped.trans (claimLimitEvent_moves .a _)).trans (claimLimitEvent_moves .b _)
  exact (claimed.trans (holdLimitEvent_moves .a _)).trans (holdLimitEvent_moves .b _)

/-! ### The end of a cycle as one change of the engine (R138) -/

section
variable {s : State} {g : Segment} {c : Cycle} {e : Ending}

theorem ownerCycleEnd_engines (g : Segment) (item : WorkItem) (r : CycleResult) (s : State) :
    (ownerCycleEnd g item r s).1.engines = s.engines := by rw [ownerCycleEnd_frame]

theorem ownerCycleEnd_params (g : Segment) (item : WorkItem) (r : CycleResult) (s : State) :
    (ownerCycleEnd g item r s).1.params = s.params := by rw [ownerCycleEnd_frame]

/-- Step 2 of R138 on what step 1 leaves. -/
theorem countOutcome_ownerCycleEnd (g : Segment) (c : Cycle) (r : CycleResult) (s : State) :
    countOutcome g c r.outcome (ownerCycleEnd g c.item r s).1 =
      { (ownerCycleEnd g c.item r s).1 with
        engines := s.engines.set g
          { s.engine g with failures := c.nextFailures r.outcome (s.engine g).failures } } := by
  simp only [countOutcome, State.setEngine, State.engine, ownerCycleEnd_engines]

/-- The end of a cycle without a fault. -/
theorem endCycle_of_no_fault
    (h : faultCause (s.engine g).state (c.countedFailure (c.result e).outcome)
      (c.nextFailures (c.result e).outcome (s.engine g).failures) (s.params.faultThreshold g) = none) :
    endCycle g c e s = recordEvent (ownerCycleEnd g c.item (c.result e) s).2
      { (ownerCycleEnd g c.item (c.result e) s).1 with
        engines := s.engines.set g { s.engine g with
          failures := c.nextFailures (c.result e).outcome (s.engine g).failures, cycle := none } } := by
  unfold endCycle
  dsimp only
  rw [countOutcome_ownerCycleEnd]
  simp only [faultTest, State.engine, PerSegment.get_set_self, ownerCycleEnd_params] at h ⊢
  rw [h]
  simp only [List.append_nil, engineIdle, State.setEngine, State.engine, PerSegment.get_set_self, PerSegment.set_set]

/-- The end of a cycle that faults the segment. -/
theorem endCycle_of_fault {f : FailReason}
    (h : faultCause (s.engine g).state (c.countedFailure (c.result e).outcome)
      (c.nextFailures (c.result e).outcome (s.engine g).failures) (s.params.faultThreshold g) = some f) :
    let v : State := { (ownerCycleEnd g c.item (c.result e) s).1 with
      engines := s.engines.set g
        { s.engine g with failures := c.nextFailures (c.result e).outcome (s.engine g).failures } }
    endCycle g c e s = recordEvent ((ownerCycleEnd g c.item (c.result e) s).2 ++ (faultSegment g f v).2)
      { (faultSegment g f v).1 with
        engines := s.engines.set g { s.engine g with
          state := .faulted, failures := c.nextFailures (c.result e).outcome (s.engine g).failures, cycle := none } } := by
  intro v
  have cause : faultCause (v.engine g).state (c.countedFailure (c.result e).outcome) (v.engine g).failures
      (v.params.faultThreshold g) = some f := by
    simpa only [v, State.engine, PerSegment.get_set_self, ownerCycleEnd_params] using h
  have tested : faultTest g c (c.result e).outcome v = faultSegment g f v := by
    simp only [faultTest, cause]
  have idle : engineIdle g (faultSegment g f v).1 = { (faultSegment g f v).1 with
      engines := s.engines.set g { s.engine g with
        state := .faulted, failures := c.nextFailures (c.result e).outcome (s.engine g).failures, cycle := none } } := by
    rw [show (faultSegment g f v).1 = _ from faultSegment_eq g f v]
    simp only [v, engineIdle, State.setEngine, State.engine, PerSegment.get_set_self, PerSegment.set_set]
  have counted : countOutcome g c (c.result e).outcome (ownerCycleEnd g c.item (c.result e) s).1 = v :=
    countOutcome_ownerCycleEnd g c (c.result e) s
  rw [← idle, ← tested, ← counted]
  rfl

/-- The end of a cycle leaves its engine IDLE and the other engine as it was. -/
theorem endCycle_engines (g : Segment) (c : Cycle) (e : Ending) (s : State) :
    ∃ x count, (endCycle g c e s).engines =
      s.engines.set g { s.engine g with state := x, failures := count, cycle := none } := by
  cases h : faultCause (s.engine g).state (c.countedFailure (c.result e).outcome)
      (c.nextFailures (c.result e).outcome (s.engine g).failures) (s.params.faultThreshold g) with
  | none =>
    rw [endCycle_of_no_fault h]
    exact ⟨_, _, recordEvent_engines _ _⟩
  | some f =>
    rw [endCycle_of_fault h]
    exact ⟨_, _, recordEvent_engines _ _⟩

end

/-! ### The limits of a cycle, by its phase (R128, R129) -/

section
variable {c : Cycle} {t : Time}

theorem Cycle.atBoundary_of_data (h : c.phase = .data t) (s : State) :
    c.atBoundary s = decide ((s.timebase - t).toNat ≤ c.holdLimit) := by
  unfold Cycle.atBoundary
  rw [h]
  rfl

theorem Cycle.atBoundary_of_claim (h : c.phase = .claim t) (s : State) : c.atBoundary s = false := by
  unfold Cycle.atBoundary
  rw [h]

theorem Cycle.claimOverdue_of_claim (h : c.phase = .claim t) (s : State) :
    c.claimOverdue s = decide (1 ≤ (s.timebase - t).toNat) := by
  unfold Cycle.claimOverdue
  rw [h]
  rfl

theorem Cycle.claimOverdue_of_data (h : c.phase = .data t) (s : State) : c.claimOverdue s = false := by
  unfold Cycle.claimOverdue
  rw [h]

theorem Cycle.holdOverdue_of_data (h : c.phase = .data t) (s : State) :
    c.holdOverdue s = decide (c.holdLimit < (s.timebase - t).toNat) := by
  unfold Cycle.holdOverdue
  rw [h]
  rfl

theorem Cycle.holdOverdue_of_claim (h : c.phase = .claim t) (s : State) : c.holdOverdue s = false := by
  unfold Cycle.holdOverdue
  rw [h]

end

/-- Settles O50: the owner's handling by the item, the three events that end a cycle, and the end itself with and
without a fault. -/
theorem cycleEndsInOneEvent : Obligations.CycleEndsInOneEvent := by
  refine ⟨fun s g r => ⟨fun _ => rfl, fun _ => rfl, fun _ => rfl⟩,
    fun s g c cycle => ⟨fun t x phase held => ?_, fun t phase late => ?_, fun t phase late => ?_, fun e => ?_⟩⟩
  · have boundary := (Cycle.atBoundary_of_data phase s).trans (decide_eq_true held)
    refine congrArg Host.Outcome.next ?_
    simp only [cycleEndEvent, cycle, boundary, if_true]
  · have overdue := (Cycle.claimOverdue_of_claim phase s).trans (decide_eq_true late)
    refine congrArg Host.Outcome.next ?_
    simp only [claimLimitEvent, cycle, overdue, if_true]
  · have overdue := (Cycle.holdOverdue_of_data phase s).trans (decide_eq_true late)
    refine congrArg Host.Outcome.next ?_
    simp only [holdLimitEvent, cycle, overdue, if_true]
  · exact ⟨endCycle_of_no_fault, fun f => endCycle_of_fault⟩

end Sys2Proof.Machine
end

section
/-! The parts of the end of a cycle, and what is true of every item of a table after one of them has changed. -/

namespace Sys2Proof.Machine

/-! ### The parts of the owner's handling (R139) -/

theorem retireHead_parts (g : Segment) (s : State) : Parts g s (retireHead g s) := by
  rcases retireHead_cases g s with ⟨-, same⟩ | ⟨e, rest, head, retired⟩
  · rw [same]
  · rw [retired]
    exact .single (.retire e rest head)

theorem countFailedWrite_parts (g : Segment) (o : Owner) (s : State) : Parts g s (countFailedWrite o s) := by
  rcases countFailedWrite_cases o s with ⟨-, -, counted⟩ | ⟨-, same⟩
  · rw [counted]
    exact .single (.charge o.lane _ (Nat.min_le_right _ _))
  · rw [same]

theorem queueCycleEnd_parts (g : Segment) (seq : Seq) (r : CycleResult) (s : State) :
    Parts g s (queueCycleEnd g seq r s).1 := by
  rcases queueCycleEnd_cases g seq r s with ignored | ⟨e, rest, head, -, retired | ⟨p, b, stays⟩ | ⟨f, failed⟩⟩
  · rw [ignored]
  · rw [retired]
    exact retireHead_parts g s
  · have replaced : setHead g { e with progress := p, backoff := b } s =
        s.setQueue g { s.queues.get g with entries := { e with progress := p, backoff := b } :: rest } := by
      rw [setHead, head]
      rfl
    rw [stays, replaced]
    exact .single (.stay e rest p b head)
  · rw [failed]
    exact (retireHead_parts g s).trans (countFailedWrite_parts g e.owner _)

theorem entryCycleEnd_parts (g : Segment) (i : EntryIndex) (r : CycleResult) (s : State) :
    Parts g s (entryCycleEnd i r s).1 := by
  rcases entryCycleEnd_cases i r s with ⟨issued, ended⟩ | ⟨abandoned, bs, freed⟩ | ⟨-, -, same⟩
  · rw [ended]
    rcases s.dtt[i].endIssued_cases s r with ⟨o, d, p, b, ready⟩ | ⟨d, p, b, partly⟩
    · rw [ready]
      exact .single (.ready i o d p b issued)
    · rw [partly]
      exact .single (.partly i d p b issued)
  · rw [freed]
    exact .single (.forget i abandoned)
  · rw [same]

/-- The end of a refill cycle of a FILLING slot, by its table: the refill is complete, goes on later, or has failed
(R115). -/
theorem fillingCycleEnd_cases (i : SlotIndex) (p : PendingRefill) (r : CycleResult) (s : State) :
    (r.outcome = .done ∧ fillingCycleEnd i p r s = (requestRefill i
        (s.setSlot i { s.slots[i] with state := .holding, held := s.slots[i].held ++ r.data, refill := none }), [])) ∨
    (r.outcome = .stop ∧ fillingCycleEnd i p r s = (s.setSlot i { s.slots[i] with
        held := s.slots[i].held ++ r.data
        refill := some { p with progress := p.progress + r.done, backoff := 0, inCycle := false } }, [])) ∨
    (r.outcome = .backoff ∧ p.backoff + 1 < 16 ∧ fillingCycleEnd i p r s = (s.setSlot i { s.slots[i] with
        refill := some { p with backoff := p.backoff + 1, inCycle := false } }, [])) ∨
    (r.outcome = .backoff ∧ 16 ≤ p.backoff + 1 ∧ fillingCycleEnd i p r s = failRefill i .targetBusy s) ∨
    ∃ f, r.outcome.failure = some f ∧ fillingCycleEnd i p r s = failRefill i f s := by
  unfold fillingCycleEnd
  cases h : r.outcome with
  | done => exact .inl ⟨rfl, rfl⟩
  | stop => exact .inr (.inl ⟨rfl, rfl⟩)
  | backoff =>
    dsimp only
    split
    · exact .inr (.inr (.inl ⟨rfl, ‹_›, rfl⟩))
    · exact .inr (.inr (.inr (.inl ⟨rfl, Nat.le_of_not_lt ‹_›, rfl⟩)))
  | noTarget => exact .inr (.inr (.inr (.inr ⟨_, rfl, rfl⟩)))
  | timeout => exact .inr (.inr (.inr (.inr ⟨_, rfl, rfl⟩)))
  | fault => exact .inr (.inr (.inr (.inr ⟨_, rfl, rfl⟩)))
  | parity => exact .inr (.inr (.inr (.inr ⟨_, rfl, rfl⟩)))

theorem slotCycleEnd_parts (g : Segment) (i : SlotIndex) (r : CycleResult) (s : State) :
    Parts g s (slotCycleEnd i r s).1 := by
  rcases slotCycleEnd_cases i r s with same | ⟨retiring, cleared⟩ | ⟨p, filling, pending, ended⟩
  · rw [same]
  · rw [cleared]
    exact .single (.clear i (.inr retiring))
  · have failed (f : FailReason) : Parts g s (failRefill i f s).1 := .single (.clear i (.inl filling))
    rw [ended]
    rcases fillingCycleEnd_cases i p r s with
      ⟨-, e⟩ | ⟨-, e⟩ | ⟨-, -, e⟩ | ⟨-, -, e⟩ | ⟨f, -, e⟩
    · rw [e]
      exact .head (.refilled i _ filling) (requestRefill_works i _ |>.parts g)
    · rw [e]
      exact .single (.refillLater i p _ _ _ filling pending)
    · rw [e]
      exact .single (.refillLater i p s.slots[i].held p.progress _ filling pending)
    · rw [e]
      exact failed _
    · rw [e]
      exact failed f

theorem ownerCycleEnd_parts (g : Segment) (item : WorkItem) (r : CycleResult) (s : State) :
    Parts g s (ownerCycleEnd g item r s).1 := by
  cases item with
  | queueEntry seq => exact queueCycleEnd_parts g seq r s
  | dttEntry i => exact entryCycleEnd_parts g i r s
  | streamSlot i => exact slotCycleEnd_parts g i r s

/-- An entry whose cycle has ended is no longer on the bus (R52, R63). -/
theorem entryCycleEnd_offBus (i : EntryIndex) (r : CycleResult) (s : State) :
    (entryCycleEnd i r s).1.dtt[i].state ≠ .issued ∧ (entryCycleEnd i r s).1.dtt[i].state ≠ .abandoned := by
  rcases entryCycleEnd_cases i r s with ⟨-, ended⟩ | ⟨-, bs, freed⟩ | ⟨issued, abandoned, same⟩
  · rw [ended, State.setEntry, table_set_self]
    rcases s.dtt[i].endIssued_cases s r with ⟨o, d, p, b, ready⟩ | ⟨d, p, b, partly⟩
    · rw [ready]
      exact ⟨by simp [DttEntry.makeReady], by simp [DttEntry.makeReady]⟩
    · rw [partly]
      exact ⟨by simp, by simp⟩
  · rw [freed, State.setEntry, table_set_self]
    decide
  · rw [same]
    exact ⟨issued, abandoned⟩

theorem StreamSlot.offBus_of_state {x : StreamSlot} {a : SlotState} (h : x.state = a) (notRetiring : a ≠ .retiring)
    (idle : a ≠ .filling ∨ x.inCycle = false) : x.OffBus :=
  ⟨ne_of_eq_of_ne h notRetiring, fun ⟨filling, busy⟩ => idle.elim (· (h.symm.trans filling))
    fun off => Bool.false_ne_true (off.symm.trans busy)⟩

theorem requestRefill_offBus {i : SlotIndex} {s : State} (h : s.slots[i].OffBus) :
    (requestRefill i s).slots[i].OffBus := by
  rcases requestRefill_cases i s with ⟨-, same⟩ | ⟨-, requested⟩
  · rwa [same]
  · rw [requested]
    have slot : ((closeTail s.slots[i].segment s).setSlot i (s.slots[i].withRefill
        (s.queues.get s.slots[i].segment).tailBarrier)).slots[i] =
        s.slots[i].withRefill (s.queues.get s.slots[i].segment).tailBarrier := table_set_self ..
    rw [slot]
    exact ⟨by simp [StreamSlot.withRefill], by simp [StreamSlot.withRefill, StreamSlot.inCycle]⟩

/-- A slot whose cycle has ended is no longer on the bus (R115, R123). -/
theorem slotCycleEnd_offBus (i : SlotIndex) (r : CycleResult) (s : State) : (slotCycleEnd i r s).1.slots[i].OffBus := by
  have set {x : StreamSlot} (h : x.OffBus) : (s.setSlot i x).slots[i].OffBus := by
    rwa [State.setSlot, State.setSlots_slots, table_set_self]
  have cleared : (s.setSlot i StreamSlot.cleared).slots[i].OffBus := set (by decide)
  unfold slotCycleEnd
  split
  · rename_i p filling pending
    rcases fillingCycleEnd_cases i p r s with ⟨-, e⟩ | ⟨-, e⟩ | ⟨-, -, e⟩ | ⟨-, -, e⟩ | ⟨f, -, e⟩
    · rw [e]
      exact requestRefill_offBus (set (StreamSlot.offBus_of_state (a := .holding) rfl (by decide) (.inl (by decide))))
    · rw [e]
      exact set (StreamSlot.offBus_of_state filling (by decide) (.inr rfl))
    · rw [e]
      exact set (StreamSlot.offBus_of_state filling (by decide) (.inr rfl))
    · rw [e]
      exact cleared
    · rw [e]
      exact cleared
  · rename_i filling none
    exact StreamSlot.offBus_of_state filling (by decide) (.inr (by rw [StreamSlot.inCycle, none]))
  · exact cleared
  · rename_i empty
    exact StreamSlot.offBus_of_state empty (by decide) (.inl (by decide))
  · rename_i holding
    exact StreamSlot.offBus_of_state holding (by decide) (.inl (by decide))

/-- What is on the bus of a segment is the item of its cycle, which has left it at the end of the cycle. -/
theorem offBus_ownerCycleEnd {g : Segment} {c : Cycle} {s : State} (cycle : (s.engine g).cycle = some c)
    (r : CycleResult) (h : ItemsOnBusOk (ownerCycleEnd g c.item r s).1) : (ownerCycleEnd g c.item r s).1.offBus g := by
  obtain ⟨entries, slots, -⟩ := h
  have carried {item : WorkItem} (on : (ownerCycleEnd g c.item r s).1.onBus g item = true) : c.item = item := by
    rw [State.onBus, State.engine, ownerCycleEnd_engines] at on
    rw [State.engine] at cycle
    rw [cycle] at on
    exact of_decide_eq_true on
  refine ⟨fun i own => not_or.1 fun busy => ?_, fun i own => not_or.1 fun busy => ?_⟩
  · have item := carried (own ▸ entries i busy)
    have off := entryCycleEnd_offBus i r s
    rw [item] at busy
    exact busy.elim off.1 off.2
  · have item := carried (own ▸ slots i busy)
    have off := slotCycleEnd_offBus i r s
    rw [item] at busy
    exact busy.elim off.1 off.2

theorem finished_parts {g : Segment} {c : Cycle} {s : State} (cycle : (s.engine g).cycle = some c) (e : Ending) :
    Parts g s (finished g c e s) :=
  .tail (ownerCycleEnd_parts g c.item _ s) (.idle (offBus_ownerCycleEnd cycle _))

/-! ### Tables -/

/-- What is true of every item of a table, and of the item written, is true of every item of the written table. -/
theorem forall_set {α : Type} {n : Nat} {p : Fin n → α → Prop} {v : Vector α n} {i : Fin n} {x : α}
    (h : ∀ j : Fin n, p j v[j]) (hx : p i x) (j : Fin n) : p j (v.set i x)[j] := by
  rw [table_set]
  split
  · rename_i same
    exact same ▸ hx
  · exact h j

theorem forall_mapAll {α β : Type} {n : Nat} {p : Fin n → β → Prop} {f : α → β} {v : Vector α n}
    (h : ∀ j : Fin n, p j (f v[j])) (j : Fin n) : p j (mapAll f v)[j] := by
  rw [mapAll_table]
  exact h j

/-- The same of the items of the two segments. -/
theorem PerSegment.forall_set {α : Type} {p : Segment → α → Prop} {v : PerSegment α} {g : Segment} {x : α}
    (h : ∀ k : Segment, p k (v.get k)) (hx : p g x) (k : Segment) : p k ((v.set g x).get k) := by
  by_cases same : k = g
  · rw [same, PerSegment.get_set_self]
    exact hx
  · rw [PerSegment.get_set_ne v x same]
    exact h k

/-- A slot that serves after a drop of slots is as it was. -/
theorem KeptOrDropped.eq_of_live {u v : Vector StreamSlot 4} (h : KeptOrDropped u v) {i : SlotIndex}
    (live : v[i].live = true) : v[i] = u[i] := by
  rcases h i with kept | dropped
  · exact kept
  · rw [dropped, StreamSlot.live_drop] at live
    contradiction

end Sys2Proof.Machine
end

section
/-! Timers: every timer that a change sets stands in a given relation to the timebase, and every timer it does not set
stays; so what the spec says of due timers holds by the end of TIMEBASE_ADVANCE (R56, R78, R120, R178, R179). -/

namespace Sys2Proof.Machine

/-! ### Timers that are set (R179) -/

/-- The expiry of a READY entry stands in a relation to the present (R56). -/
abbrev DttEntry.Timed (r : Time → Time → Prop) (now : Time) (e : DttEntry) : Prop := e.state = .ready → r now e.expiry

/-- The close time of an open tail stands in a relation to the present (R78). -/
abbrev PostedQueue.Timed (r : Time → Time → Prop) (now : Time) (q : PostedQueue) : Prop :=
  ∀ e ∈ q.tail, ∀ t ∈ e.closeTime, r now t

/-- The idle expiry of a slot that serves stands in a relation to the present (R120). -/
abbrev StreamSlot.Timed (r : Time → Time → Prop) (now : Time) (x : StreamSlot) : Prop :=
  x.live = true → r now x.idleExpiry

/-- Three relations for the three kinds of timers, which hold of a timer set now by a parameter in its range. -/
structure TimerRelations where
  expiry : Time → Time → Prop
  close : Time → Time → Prop
  idle : Time → Time → Prop
  expiry_set : ∀ (now : Time) (k : Nat), 64 ≤ k → k ≤ 65535 → expiry now (now + BitVec.ofNat 32 k)
  close_set : ∀ (now : Time) (k : Nat), 1 ≤ k → k ≤ 255 → close now (now + BitVec.ofNat 32 k)
  idle_set : ∀ (now : Time) (k : Nat), 16 ≤ k → k ≤ 4095 → idle now (now + BitVec.ofNat 32 k)

/-- Every timer that is set satisfies its relation, and the parameters that set them are in range. -/
structure TimersSet (r : TimerRelations) (s : State) : Prop where
  inRange : s.params.inRange
  entries : ∀ i : EntryIndex, s.dtt[i].Timed r.expiry s.timebase
  tails : ∀ g : Segment, (s.queues.get g).Timed r.close s.timebase
  slots : ∀ i : SlotIndex, s.slots[i].Timed r.idle s.timebase

theorem PostedQueue.closeTail_tail (q : PostedQueue) : q.closeTail.tail = q.tail.map QueueEntry.close :=
  mapLast_getLast? QueueEntry.close q.entries

theorem DttEntry.release_state_ne_ready (e : DttEntry) : e.release.state ≠ .ready := by
  rcases e.release_cases with ⟨same, h⟩ | ⟨cleared, -⟩ | ⟨abandoned, -⟩
  · rw [same]
    rcases h with h | h <;> simp [h]
  · rw [cleared]
    decide
  · rw [abandoned]
    simp

/-- A READY entry after a COMMIT was READY, with the same expiry. -/
theorem DttEntry.commit_of_ready {e : DttEntry} (h : e.commit.state = .ready) :
    e.state = .ready ∧ e.commit.expiry = e.expiry := by
  unfold DttEntry.commit at h ⊢
  split at h <;> simp_all [DttEntry.cleared]

section
variable {r : TimerRelations} {s t : State}

theorem closeTail_timed {q : PostedQueue} {now : Time} : q.closeTail.Timed r.close now := by
  intro e tail t open_
  rw [PostedQueue.closeTail_tail] at tail
  obtain ⟨d, -, rfl⟩ := Option.map_eq_some_iff.1 tail
  simp [QueueEntry.close] at open_

/-- The tail after a merge is the old tail with the same close time, or closed (R73). -/
theorem append_closeTime {e : QueueEntry} {ws : List WriteWord} {t : Time} (h : (e.append ws).closeTime = some t) :
    e.closeTime = some t := by
  unfold QueueEntry.append at h
  dsimp only at h
  split at h
  · simp [QueueEntry.close] at h
  · exact h

/-- A new entry that is open closes after MERGE-WINDOW, which is not 0 (R74). -/
theorem newQueueEntry_closeTime {o : Owner} {k : WindowIndex} {a : SegAddr} {ws : List WriteWord} {b : Seq} {t : Time}
    (h : (newQueueEntry s o k a ws b).closeTime = some t) :
    1 ≤ s.params.mergeWindow ∧ t = s.after s.params.mergeWindow := by
  unfold newQueueEntry at h
  dsimp only at h
  split at h
  · simp [QueueEntry.close] at h
  · rename_i opened
    simp only [Bool.or_eq_true, decide_eq_true_eq, not_or] at opened
    exact ⟨Nat.pos_of_ne_zero opened.1.1, (Option.some.inj h).symm⟩

theorem discard_timersSet (g : Segment) (c : Cause) (h : TimersSet r s) : TimersSet r (discardQueue g c s).1 := by
  rw [discardQueue_fields]
  refine ⟨h.inRange, ?_, ?_, ?_⟩
  · refine forall_mapAll (p := fun _ => DttEntry.Timed r.expiry s.timebase) fun i => ?_
    unfold DttEntry.meetAll
    split <;> exact h.entries i
  · exact PerSegment.forall_set (p := fun _ => PostedQueue.Timed r.close s.timebase) h.tails fun e tail => by cases tail
  · refine forall_mapAll (p := fun _ => StreamSlot.Timed r.idle s.timebase) fun i => ?_
    unfold StreamSlot.meetAll
    split <;> exact h.slots i

theorem Work.timersSet (w : Work s t) (h : TimersSet r s) : TimersSet r t := by
  obtain ⟨-, -, -, -, stream, -⟩ := h.inRange
  have setQueue (g : Segment) {q : PostedQueue} (hq : q.Timed r.close s.timebase) :=
    PerSegment.forall_set (p := fun _ => PostedQueue.Timed r.close s.timebase) (g := g) h.tails hq
  have setSlot (i : SlotIndex) {x : StreamSlot} (hx : x.Timed r.idle s.timebase) :=
    forall_set (p := fun _ => StreamSlot.Timed r.idle s.timebase) (i := i) h.slots hx
  have idle : r.idle s.timebase (s.after s.params.streamIdle) := r.idle_set _ _ stream.1 stream.2
  cases w with
  | drop v dropped =>
    refine { h with slots := fun i live => ?_ }
    have kept : v[i] = s.slots[i] := dropped.eq_of_live live
    exact kept ▸ h.slots i (kept ▸ live)
  | release v released =>
    refine { h with entries := fun i ready => ?_ }
    rcases released i with kept | gone
    · exact kept ▸ h.entries i (kept ▸ ready)
    · exact absurd (gone ▸ ready) s.dtt[i].release_state_ne_ready
  | closeTail g => exact { h with tails := setQueue g closeTail_timed }
  | serve i w => exact { h with slots := setSlot i fun _ => idle }
  | refill i wants =>
    have holding : s.slots[i].state = .holding := by
      simp only [StreamSlot.wantsRefill, Bool.and_eq_true, decide_eq_true_eq] at wants
      exact wants.1.1
    exact { h with slots := setSlot i fun _ => h.slots i (StreamSlot.live_iff.2 (.inl holding)) }
  | fill j o i v _ _ _ _ _ dropped _ _ =>
    refine { h with slots := forall_set (p := fun _ => StreamSlot.Timed r.idle s.timebase) (fun l live => ?_) fun _ => idle }
    have kept := dropped.eq_of_live live
    exact kept ▸ h.slots l (kept ▸ live)
  | create i o kind a w ws k _ _ _ _ =>
    refine { h with entries := forall_set (p := fun _ => DttEntry.Timed r.expiry s.timebase) h.entries fun ready => ?_ }
    simp [newEntry] at ready
  | merge o k a ws e tail _ _ =>
    refine { h with tails := setQueue _ fun d last t open_ => h.tails _ e tail t ?_ }
    rw [PostedQueue.tail, List.getLast?_concat] at last
    obtain rfl := Option.some.inj last
    exact append_closeTime open_
  | push o k a ws _ _ =>
    refine { h with tails := setQueue _ fun d last t open_ => ?_ }
    rw [PostedQueue.tail, PostedQueue.push, List.getLast?_concat] at last
    obtain rfl := Option.some.inj last
    obtain ⟨positive, rfl⟩ := newQueueEntry_closeTime open_
    exact r.close_set _ _ positive h.inRange.2.2.1
  | commit =>
    refine { h with entries := forall_mapAll (p := fun _ => DttEntry.Timed r.expiry s.timebase) fun i ready => ?_ }
    obtain ⟨before, same⟩ := DttEntry.commit_of_ready ready
    exact same ▸ h.entries i before
  | params p inRange => exact { h with inRange := inRange h.inRange }
  | discard g c => exact discard_timersSet g c h
  | _ => exact { h with }

theorem DttEntry.Timed.meet {e : DttEntry} {now : Time} (h : e.Timed r.expiry now) (g : Segment) (b : Seq) :
    (e.meet g b).Timed r.expiry now := by
  unfold DttEntry.meet
  split <;> exact h

theorem StreamSlot.Timed.meet {x : StreamSlot} {now : Time} (h : x.Timed r.idle now) (g : Segment) (b : Seq) :
    (x.meet g b).Timed r.idle now := by
  unfold StreamSlot.meet
  split <;> exact h

/-- An entry that becomes READY expires after DISCARD-TIME (R56). -/
theorem makeReady_timed (h : s.params.inRange) (o : EntryOutcome) (e : DttEntry) :
    (e.makeReady s o).Timed r.expiry s.timebase := by
  obtain ⟨discard, -⟩ := h
  exact fun _ => r.expiry_set _ _ discard.1 discard.2

theorem Part.timersSet {g : Segment} (p : Part g s t) (h : TimersSet r s) : TimersSet r t := by
  have setEntry (i : EntryIndex) {e : DttEntry} (he : e.Timed r.expiry s.timebase) :=
    forall_set (p := fun _ => DttEntry.Timed r.expiry s.timebase) (i := i) h.entries he
  have setSlot (i : SlotIndex) {x : StreamSlot} (hx : x.Timed r.idle s.timebase) :=
    forall_set (p := fun _ => StreamSlot.Timed r.idle s.timebase) (i := i) h.slots hx
  have setQueue {q : PostedQueue} (hq : q.Timed r.close s.timebase) :=
    PerSegment.forall_set (p := fun _ => PostedQueue.Timed r.close s.timebase) (g := g) h.tails hq
  cases p with
  | work w => exact w.timersSet h
  | retire e rest head =>
    refine ⟨h.inRange, forall_mapAll (p := fun _ => DttEntry.Timed r.expiry s.timebase) fun i => (h.entries i).meet g _,
      setQueue fun d last t open_ => h.tails g d ?_ t open_,
      forall_mapAll (p := fun _ => StreamSlot.Timed r.idle s.timebase) fun i => (h.slots i).meet g _⟩
    rw [PostedQueue.tail] at last ⊢
    rw [head, List.getLast?_cons, last]
    rfl
  | stay e rest progress backoff head =>
    refine { h with tails := setQueue fun d last t open_ => ?_ }
    rw [PostedQueue.tail, List.getLast?_cons] at last
    have tail : (s.queues.get g).tail = some (rest.getLast?.getD e) := by rw [PostedQueue.tail, head, List.getLast?_cons]
    refine h.tails g _ tail t ?_
    obtain rfl := Option.some.inj last
    cases hl : rest.getLast? with
    | none =>
      rw [hl] at open_
      exact open_
    | some x =>
      rw [hl] at open_
      exact open_
  | ready i o data progress backoff _ => exact { h with entries := setEntry i (makeReady_timed h.inRange o _) }
  | partly i data progress backoff _ => exact { h with entries := setEntry i fun ready => by cases ready }
  | forget i _ => exact { h with entries := setEntry i fun ready => by cases ready }
  | refilled i held filling =>
    exact { h with slots := setSlot i fun _ => h.slots i (StreamSlot.live_iff.2 (.inr filling)) }
  | refillLater i p held progress backoff filling _ =>
    exact { h with slots := setSlot i fun _ => h.slots i (StreamSlot.live_iff.2 (.inr filling)) }
  | clear i _ => exact { h with slots := setSlot i fun live => by cases live }
  | _ => exact { h with }

theorem powerOn_timersSet (s : State) : TimersSet r (powerOn s) where
  inRange := show Parameters.reset.inRange by decide
  entries i ready := by
    have free : ∀ i : EntryIndex, State.reset.dtt[i].state = .free := by decide
    rw [powerOn, free i] at ready
    contradiction
  tails g e tail := by
    cases g <;> cases tail
  slots i live := by
    have empty : ∀ i : SlotIndex, State.reset.slots[i].live = false := by decide
    rw [powerOn, empty i] at live
    contradiction

theorem Event.timersSet (e : Event s t) (h : TimersSet r s) : TimersSet r t := by
  cases e with
  | powerOn => exact powerOn_timersSet s
  | leave n _ =>
    rw [leaveLane_fields]
    exact { h with }
  | grantF g i _ _ _ =>
    refine { h with entries := ?_ }
    exact forall_set (p := fun _ => DttEntry.Timed r.expiry s.timebase) h.entries fun ready => by cases ready
  | grantR g i p _ _ _ _ _ =>
    refine { h with slots := ?_ }
    exact forall_set (p := fun _ => StreamSlot.Timed r.idle s.timebase) h.slots (h.slots i)
  | segmentDown g =>
    refine { h with entries := forall_mapAll (p := fun _ => DttEntry.Timed r.expiry s.timebase) fun i => ?_ }
    split
    · exact makeReady_timed h.inRange _ _
    · exact h.entries i
  | _ => exact { h with }

theorem Move.timersSet (m : Move s t) (h : TimersSet r s) : TimersSet r t := by
  cases m with
  | work w => exact w.timersSet h
  | event e => exact e.timersSet h
  | finish g c e cycle _ => exact kept_by_run (p := TimersSet r) (fun _ _ => Part.timersSet) (finished_parts cycle e) h

theorem Moves.timersSet (m : Moves s t) (h : TimersSet r s) : TimersSet r t :=
  kept_by_run (p := TimersSet r) (fun _ _ => Move.timersSet) m h

end

end Sys2Proof.Machine
end

section
/-! The expiries that are due, and TIMEBASE_ADVANCE, which takes them before it adds (R57, R78, R120, R178, R179). -/

namespace Sys2Proof.Machine

/-! ### Events that are not due change nothing (notes/assumptions/1.md) -/

section
variable {s : State} {g : Segment}

theorem discardEvent_of_not_due {i : EntryIndex} (h : s.dtt[i].state ≠ .ready ∨ s.dtt[i].expiry ≠ s.timebase) :
    discardEvent i s = s := if_neg fun due => h.elim (· due.1) (· due.2)

theorem idleEvent_of_not_due {i : SlotIndex} (h : s.slots[i].live = false ∨ s.slots[i].idleExpiry ≠ s.timebase) :
    idleEvent i s = s := if_neg fun due => h.elim (fun idle => Bool.false_ne_true (idle ▸ due.1)) (· due.2)

theorem closeTimeEvent_of_not_due (h : ∀ e ∈ (s.queues.get g).tail, e.closeTime ≠ some s.timebase) :
    closeTimeEvent g s = s := by
  unfold closeTimeEvent
  split
  · exact if_neg (h _ ‹_›)
  · rfl

theorem claimLimitEvent_of_not_overdue (h : ∀ c ∈ (s.engine g).cycle, c.claimOverdue s = false) :
    claimLimitEvent g s = s := by
  unfold claimLimitEvent
  split
  · rename_i c cycle
    rw [h c cycle]
    rfl
  · rfl

theorem holdLimitEvent_of_not_overdue (h : ∀ c ∈ (s.engine g).cycle, c.holdOverdue s = false) :
    holdLimitEvent g s = s := by
  unfold holdLimitEvent
  split
  · rename_i c cycle
    rw [h c cycle]
    rfl
  · rfl

end

theorem foldl_of_eq_self {α : Type} {event : α → State → State} {s : State} (h : ∀ a, event a s = s) (l : List α) :
    l.foldl (fun t a => event a t) s = s := by
  induction l with
  | nil => rfl
  | cons a l ih => rw [List.foldl_cons, h, ih]

theorem takeDue_of_nothingDue {s : State} (h : NothingDue s) : takeDue s = s := by
  obtain ⟨entries, tailA, tailB, slots, cycleA, cycleB⟩ := h
  have discards (i : EntryIndex) : discardEvent i s = s :=
    discardEvent_of_not_due (or_iff_not_imp_left.2 fun ready => entries i (not_not.1 ready))
  have idles (i : SlotIndex) : idleEvent i s = s :=
    idleEvent_of_not_due (or_iff_not_imp_left.2 fun live => slots i (Bool.not_eq_false _ ▸ live))
  unfold takeDue
  dsimp only
  rw [closeTimeEvent_of_not_due (g := .a) tailA, closeTimeEvent_of_not_due (g := .b) tailB, foldl_of_eq_self discards,
    foldl_of_eq_self idles, claimLimitEvent_of_not_overdue (g := .a) fun c cycle => (cycleA c cycle).1,
    claimLimitEvent_of_not_overdue (g := .b) fun c cycle => (cycleB c cycle).1,
    holdLimitEvent_of_not_overdue (g := .a) fun c cycle => (cycleA c cycle).2,
    holdLimitEvent_of_not_overdue (g := .b) fun c cycle => (cycleB c cycle).2]

/-! ### What a fold of events leaves and establishes -/

theorem foldl_keeps {α β : Type} {event : α → State → State} {f : State → β} (h : ∀ a s, f (event a s) = f s)
    (l : List α) (s : State) : f (l.foldl (fun t a => event a t) s) = f s := by
  induction l generalizing s with
  | nil => rfl
  | cons a l ih => rw [List.foldl_cons, ih, h]

/-- Events that each establish a property of their own index, and keep it of every other, establish it of every index
of the list. -/
theorem foldl_establishes {α : Type} {event : α → State → State} {q : α → State → Prop}
    (h : ∀ a i s, i = a ∨ q i s → q i (event a s)) {l : List α} {i : α} {s : State} (hi : i ∈ l ∨ q i s) :
    q i (l.foldl (fun t a => event a t) s) := by
  induction l generalizing s with
  | nil => exact hi.elim (fun m => absurd m List.not_mem_nil) id
  | cons a l ih =>
    refine ih ?_
    rcases hi with m | now
    · rcases List.mem_cons.1 m with own | later
      · exact .inr (h a i s (.inl own))
      · exact .inl later
    · exact .inr (h a i s (.inr now))

/-! ### The timers after the expiries that were due -/

/-- A timer set now by a parameter in its range is not due now. -/
theorem after_ne_now (now : Time) {k : Nat} (lo : 1 ≤ k) (hi : k ≤ 65535) : now + BitVec.ofNat 32 k ≠ now := by
  bv_omega

/-- No timer is due. -/
def undue : TimerRelations where
  expiry now t := t ≠ now
  close now t := t ≠ now
  idle now t := t ≠ now
  expiry_set now k lo hi := after_ne_now now (by omega) hi
  close_set now k lo hi := after_ne_now now lo (by omega)
  idle_set now k lo hi := after_ne_now now (by omega) (by omega)

theorem discardEvent_undue (j i : EntryIndex) (s : State) (h : i = j ∨ s.dtt[i].Timed undue.expiry s.timebase) :
    (discardEvent j s).dtt[i].Timed undue.expiry (discardEvent j s).timebase := by
  have timebase : (discardEvent j s).timebase = s.timebase := by rw [discardEvent_frame]
  rw [timebase]
  by_cases due : s.dtt[j].state = .ready ∧ s.dtt[j].expiry = s.timebase
  · have entry : (discardEvent j s).dtt[i] = if j = i then DttEntry.cleared else s.dtt[i] := by
      rw [discardEvent, if_pos due, recordEvent_dtt]
      exact table_set ..
    rw [entry]
    split
    · exact fun ready => by cases ready
    · exact h.resolve_left (Ne.symm ‹_›)
  · rw [discardEvent, if_neg due]
    rcases h with rfl | undue
    · exact fun ready expired => due ⟨ready, expired⟩
    · exact undue

theorem idleEvent_undue (j i : SlotIndex) (s : State) (h : i = j ∨ s.slots[i].Timed undue.idle s.timebase) :
    (idleEvent j s).slots[i].Timed undue.idle (idleEvent j s).timebase := by
  have timebase : (idleEvent j s).timebase = s.timebase := by rw [idleEvent_frame]
  rw [timebase]
  by_cases due : s.slots[j].live = true ∧ s.slots[j].idleExpiry = s.timebase
  · have slot : (idleEvent j s).slots[i] = if j = i then s.slots[j].drop else s.slots[i] := by
      rw [idleEvent, if_pos due]
      exact table_set ..
    rw [slot]
    split
    · intro live
      rw [StreamSlot.live_drop] at live
      contradiction
    · exact h.resolve_left (Ne.symm ‹_›)
  · rw [idleEvent, if_neg due]
    rcases h with rfl | undue
    · exact fun live expired => due ⟨live, expired⟩
    · exact undue

theorem closeTimeEvent_undue (g h : Segment) (s : State) (hq : h = g ∨ (s.queues.get h).Timed undue.close s.timebase) :
    ((closeTimeEvent g s).queues.get h).Timed undue.close (closeTimeEvent g s).timebase := by
  have timebase : (closeTimeEvent g s).timebase = s.timebase := by rw [closeTimeEvent_frame]
  rw [timebase]
  by_cases due : ∀ e ∈ (s.queues.get g).tail, e.closeTime ≠ some s.timebase
  · rw [closeTimeEvent_of_not_due due]
    rcases hq with rfl | undue
    · exact fun e tail t closes now => due e tail (now ▸ closes)
    · exact undue
  · have closed : closeTimeEvent g s = closeTail g s := by
      simp only [not_forall, not_not] at due
      obtain ⟨e, tail, now⟩ := due
      unfold closeTimeEvent
      rw [Option.mem_def.1 tail]
      exact if_pos now
    rw [closed]
    by_cases same : h = g
    · rw [same, closeTail, State.setQueue, PerSegment.get_set_self]
      exact closeTail_timed
    · rw [closeTail, State.setQueue, PerSegment.get_set_ne _ _ same]
      exact hq.resolve_left same

/-- The expiries that TIMEBASE_ADVANCE takes first. -/
def takeExpiries (s : State) : State :=
  (List.finRange 4).foldl (fun t i => idleEvent i t)
    ((List.finRange 16).foldl (fun t i => discardEvent i t) (closeTimeEvent .b (closeTimeEvent .a s)))

/-- The limits that it takes then. -/
def takeLimits (s : State) : State :=
  holdLimitEvent .b (holdLimitEvent .a (claimLimitEvent .b (claimLimitEvent .a s)))

theorem takeDue_eq (s : State) : takeDue s = takeLimits (takeExpiries s) := rfl

theorem takeExpiries_undue {s : State} (h : s.params.inRange) : TimersSet undue (takeExpiries s) := by
  let closed := closeTimeEvent .b (closeTimeEvent .a s)
  let discarded := (List.finRange 16).foldl (fun t i => discardEvent i t) closed
  have closes (g : Segment) : (closed.queues.get g).Timed undue.close closed.timebase := by
    refine closeTimeEvent_undue .b g _ ?_
    cases g with
    | a => exact .inr (closeTimeEvent_undue .a .a s (.inl rfl))
    | b => exact .inl rfl
  have discards (i : EntryIndex) : discarded.dtt[i].Timed undue.expiry discarded.timebase :=
    foldl_establishes (q := fun i s => s.dtt[i].Timed undue.expiry s.timebase) discardEvent_undue
      (.inl (List.mem_finRange i))
  have idles (i : SlotIndex) : (takeExpiries s).slots[i].Timed undue.idle (takeExpiries s).timebase :=
    foldl_establishes (q := fun i s => s.slots[i].Timed undue.idle s.timebase) idleEvent_undue
      (.inl (List.mem_finRange i))
  have afterDiscards : (discarded.params, discarded.queues, discarded.timebase) =
      (closed.params, closed.queues, closed.timebase) :=
    foldl_keeps (f := fun u : State => (u.params, u.queues, u.timebase)) (fun i u => by rw [discardEvent_frame]) _ _
  have afterIdles : ((takeExpiries s).params, (takeExpiries s).queues, (takeExpiries s).timebase, (takeExpiries s).dtt) =
      (discarded.params, discarded.queues, discarded.timebase, discarded.dtt) :=
    foldl_keeps (f := fun u : State => (u.params, u.queues, u.timebase, u.dtt)) (fun i u => by rw [idleEvent_frame]) _ _
  have params : closed.params = s.params := by
    simp only [closed]
    rw [closeTimeEvent_frame, closeTimeEvent_frame]
  simp only [Prod.mk.injEq] at afterDiscards afterIdles
  obtain ⟨params', queues', timebase'⟩ := afterDiscards
  obtain ⟨params'', queues'', timebase'', dtt''⟩ := afterIdles
  refine ⟨?_, ?_, ?_, idles⟩
  · rwa [params'', params', params]
  · rw [dtt'', timebase'']
    exact discards
  · rw [queues'', queues', timebase'', timebase']
    exact closes

/-! ### The limits of the cycles (R128, R129) -/

/-- No cycle has begun and the present is the same. -/
abbrev NoNewCycle (s t : State) : Prop :=
  t.timebase = s.timebase ∧ ∀ g : Segment, ∀ c ∈ (t.engine g).cycle, c ∈ (s.engine g).cycle

theorem endCycle_noNewCycle (g : Segment) (c : Cycle) (e : Ending) (s : State) :
    NoNewCycle s (endCycle g c e s) ∧ ((endCycle g c e s).engine g).cycle = none := by
  obtain ⟨x, count, engines⟩ := endCycle_engines g c e s
  have engine (h : Segment) : (endCycle g c e s).engine h =
      (s.engines.set g { s.engine g with state := x, failures := count, cycle := none }).get h :=
    congrArg (fun p => PerSegment.get p h) engines
  refine ⟨⟨by rw [endCycle_frame], fun h d cycle => ?_⟩, by rw [engine, PerSegment.get_set_self]⟩
  by_cases same : h = g
  · rw [engine, same, PerSegment.get_set_self] at cycle
    cases cycle
  · rwa [engine, PerSegment.get_set_ne _ _ same] at cycle

theorem claimLimitEvent_noNewCycle (g : Segment) (s : State) : NoNewCycle s (claimLimitEvent g s) ∧
    ∀ c ∈ ((claimLimitEvent g s).engine g).cycle, c.claimOverdue s = false := by
  unfold claimLimitEvent
  split
  · rename_i d cycle
    split
    · obtain ⟨fewer, idle⟩ := endCycle_noNewCycle g d .noTarget s
      exact ⟨fewer, fun c busy => by rw [idle] at busy; cases busy⟩
    · rename_i early
      exact ⟨⟨rfl, fun _ _ => id⟩, fun c busy => Option.some.inj (cycle.symm.trans busy) ▸ Bool.eq_false_iff.2 early⟩
  · rename_i idle
    exact ⟨⟨rfl, fun _ _ => id⟩, fun c busy => by rw [idle] at busy; cases busy⟩

theorem holdLimitEvent_noNewCycle (g : Segment) (s : State) : NoNewCycle s (holdLimitEvent g s) ∧
    ∀ c ∈ ((holdLimitEvent g s).engine g).cycle, c.holdOverdue s = false := by
  unfold holdLimitEvent
  split
  · rename_i d cycle
    split
    · obtain ⟨fewer, idle⟩ := endCycle_noNewCycle g d .timeout s
      exact ⟨fewer, fun c busy => by rw [idle] at busy; cases busy⟩
    · rename_i early
      exact ⟨⟨rfl, fun _ _ => id⟩, fun c busy => Option.some.inj (cycle.symm.trans busy) ▸ Bool.eq_false_iff.2 early⟩
  · rename_i idle
    exact ⟨⟨rfl, fun _ _ => id⟩, fun c busy => by rw [idle] at busy; cases busy⟩

theorem NoNewCycle.trans {s t u : State} (h : NoNewCycle s t) (k : NoNewCycle t u) : NoNewCycle s u :=
  ⟨k.1.trans h.1, fun g c busy => h.2 g c (k.2 g c busy)⟩

/-- The limits depend on the state by the present alone. -/
theorem Cycle.claimOverdue_congr (c : Cycle) {s t : State} (h : t.timebase = s.timebase) :
    c.claimOverdue t = c.claimOverdue s := by
  cases phase : c.phase with
  | claim since => rw [c.claimOverdue_of_claim phase, c.claimOverdue_of_claim phase, h]
  | data boundary => rw [c.claimOverdue_of_data phase, c.claimOverdue_of_data phase]

theorem Cycle.holdOverdue_congr (c : Cycle) {s t : State} (h : t.timebase = s.timebase) :
    c.holdOverdue t = c.holdOverdue s := by
  cases phase : c.phase with
  | claim since => rw [c.holdOverdue_of_claim phase, c.holdOverdue_of_claim phase]
  | data boundary => rw [c.holdOverdue_of_data phase, c.holdOverdue_of_data phase, h]

theorem takeLimits_timebase (s : State) : (takeLimits s).timebase = s.timebase :=
  ((((claimLimitEvent_noNewCycle .a s).1.trans (claimLimitEvent_noNewCycle .b _).1).trans
    (holdLimitEvent_noNewCycle .a _).1).trans (holdLimitEvent_noNewCycle .b _).1).1

/-- No cycle is past a limit after the limits were taken. -/
theorem takeLimits_notOverdue (s : State) (g : Segment) :
    ∀ c ∈ ((takeLimits s).engine g).cycle, c.claimOverdue (takeLimits s) = false ∧ c.holdOverdue (takeLimits s) = false := by
  let u := claimLimitEvent .b (claimLimitEvent .a s)
  obtain ⟨claimA, doneA⟩ := claimLimitEvent_noNewCycle .a s
  obtain ⟨claimB, doneB⟩ := claimLimitEvent_noNewCycle .b (claimLimitEvent .a s)
  obtain ⟨holdA, endA⟩ := holdLimitEvent_noNewCycle .a u
  obtain ⟨holdB, endB⟩ := holdLimitEvent_noNewCycle .b (holdLimitEvent .a u)
  have holds : NoNewCycle u (takeLimits s) := holdA.trans holdB
  have now := takeLimits_timebase s
  intro c busy
  rw [c.claimOverdue_congr now, c.holdOverdue_congr now]
  have before := holds.2 g c busy
  cases g with
  | a =>
    have hold := endA c (holdB.2 .a c busy)
    rw [c.holdOverdue_congr (claimA.trans claimB).1] at hold
    exact ⟨doneA c (claimB.2 .a c before), hold⟩
  | b =>
    have claim := doneB c before
    have hold := endB c busy
    rw [c.claimOverdue_congr claimA.1] at claim
    rw [c.holdOverdue_congr ((claimA.trans claimB).trans holdA).1] at hold
    exact ⟨claim, hold⟩

theorem takeLimits_moves (s : State) : Moves s (takeLimits s) :=
  (((claimLimitEvent_moves .a s).trans (claimLimitEvent_moves .b _)).trans (holdLimitEvent_moves .a _)).trans
    (holdLimitEvent_moves .b _)

/-- Nothing is due when TIMEBASE_ADVANCE adds (notes/assumptions/2.md). -/
theorem nothingDue_takeDue {s : State} (h : s.params.inRange) : NothingDue (takeDue s) := by
  rw [takeDue_eq]
  obtain ⟨-, entries, tails, slots⟩ := (takeLimits_moves _).timersSet (takeExpiries_undue h)
  have overdue := takeLimits_notOverdue (takeExpiries s)
  generalize takeLimits (takeExpiries s) = t at *
  exact ⟨entries, fun e tail due => tails .a e tail _ due rfl, fun e tail due => tails .b e tail _ due rfl, slots,
    overdue .a, overdue .b⟩

theorem takeDue_timebase (s : State) : (takeDue s).timebase = s.timebase := by
  have expiries : (takeExpiries s).timebase = s.timebase := by
    unfold takeExpiries
    rw [foldl_keeps (f := State.timebase) (event := idleEvent) fun i u => by rw [idleEvent_frame],
      foldl_keeps (f := State.timebase) (event := discardEvent) fun i u => by rw [discardEvent_frame],
      closeTimeEvent_frame, closeTimeEvent_frame]
  rw [takeDue_eq, takeLimits_timebase, expiries]

/-- The expiry commands, taken in their order, lead to what TIMEBASE_ADVANCE adds to (notes/assumptions/2.md). -/
theorem runs_dueCommands (s : State) : Runs dueCommands s (takeDue s) := by
  have closes : Runs [.closeTime .a, .closeTime .b] s (closeTimeEvent .b (closeTimeEvent .a s)) :=
    ⟨_, rfl, _, rfl, rfl⟩
  have discards := Runs_append closes
    (Runs_map (command := .discardExpiry) (event := discardEvent) (fun _ _ => rfl) (List.finRange 16) _)
  have idles := Runs_append discards
    (Runs_map (command := .idleExpiry) (event := idleEvent) (fun _ _ => rfl) (List.finRange 4) _)
  exact Runs_append idles ⟨_, rfl, _, rfl, _, rfl, _, rfl, rfl⟩

/-- Settles O56: the three expiries one by one, and TIMEBASE_ADVANCE as the run of the expiry commands. -/
theorem expiriesAndTimebase : Obligations.ExpiriesAndTimebase := by
  intro s
  refine ⟨fun i ready due => ⟨DttEntry.cleared, rfl, ?_⟩, fun g e tail due => ?_,
    fun i live due => ⟨s.slots[i].drop, s.slots[i].droppedTo_drop, ?_⟩,
    ⟨takeDue s, runs_dueCommands s, takeDue_timebase s, nothingDue_takeDue, ?_⟩, fun nothing => ?_⟩
  · refine congrArg Host.Outcome.next ?_
    rw [discardEvent, if_pos ⟨ready, due⟩]
    rfl
  · refine congrArg Host.Outcome.next ?_
    unfold closeTimeEvent
    rw [tail]
    exact if_pos due
  · exact congrArg Host.Outcome.next (if_pos ⟨live, due⟩)
  · refine congrArg Host.Outcome.next ?_
    rw [advanceTimebase, takeDue_timebase]
  · refine congrArg Host.Outcome.next ?_
    rw [takeDue_of_nothingDue nothing]
    rfl

end Sys2Proof.Machine
end

section
/-! Every command is a run of changes, so a step keeps what every change and the advance of the timebase keep. -/

namespace Sys2Proof.Machine

/-! ### The effects that are one change (R157, R168, R169, R172, R180) -/

theorem claim_effects : Effects claimEffect := by
  intro n args s up out h
  obtain rfl := Option.some.inj h
  exact .single (.claim n up)

theorem release_effects : Effects releaseEffect := by
  intro n args s _ out h
  obtain rfl := Option.some.inj h
  exact .single .endRole

theorem open_effects : Effects openEffect := by
  intro n args s _ out h
  obtain rfl := Option.some.inj h
  exact .single (.gate .opened)

theorem close_effects : Effects closeEffect := by
  intro n args s _ out h
  obtain rfl := Option.some.inj h
  exact .single (.gate .closed)

theorem getStatus_effects : Effects getStatusEffect := by
  intro n args s _ out h
  obtain rfl := Option.some.inj h
  exact .refl

theorem logTake_effects : Effects logTakeEffect := by
  intro n args s _ out h
  obtain rfl := Option.some.inj h
  exact .single .takeLog

/-! ### The rows of the intake -/

/-- The command c takes the parcels that its handlers handle, which are those whose row is c. -/
structure IntakeRow (c : Instr) (handler : LaneId → Request → Option Handler) : Prop where
  takes : ∀ s, exec c s = .next (takeParcel handler s)
  works : RowWorks handler
  handles : ∀ n r, (handler n r).isSome = true ↔ takenBy r = c

/-- The commands of the management operations are none of the other four. -/
theorem commandOf_ne (op : MgmtOp) : commandOf op ∉ [Instr.malformedParcel, .read, .write, .fence] := by
  cases op
  all_goals decide

theorem commandOf_inj {x y : MgmtOp} : commandOf x = commandOf y ↔ x = y := by
  cases x <;> cases y
  all_goals simp [commandOf]

/-- A row of which no management operation is one. -/
theorem takenBy_mgmt_ne {c : Instr} (other : c ∈ [Instr.malformedParcel, .read, .write, .fence]) (op : MgmtOp)
    (args : List Word) : takenBy (.mgmt op args) ≠ c := by
  rintro rfl
  exact commandOf_ne op other

/-- The management agent carries out each operation by an effect of its own. -/
theorem exists_effect (op : MgmtOp) : ∃ effect, (∀ s, exec (commandOf op) s = .next (takeMgmt op effect s)) ∧
    Effects effect := by
  cases op with
  | claim => exact ⟨_, fun _ => rfl, claim_effects⟩
  | release => exact ⟨_, fun _ => rfl, release_effects⟩
  | openGate => exact ⟨_, fun _ => rfl, open_effects⟩
  | closeGate => exact ⟨_, fun _ => rfl, close_effects⟩
  | stageWindow => exact ⟨_, fun _ => rfl, stageWindow_effects⟩
  | readWindow => exact ⟨_, fun _ => rfl, readWindow_effects⟩
  | commit => exact ⟨_, fun _ => rfl, commit_effects⟩
  | setParameter => exact ⟨_, fun _ => rfl, setParameter_effects⟩
  | getParameter => exact ⟨_, fun _ => rfl, getParameter_effects⟩
  | getStatus => exact ⟨_, fun _ => rfl, getStatus_effects⟩
  | logTake => exact ⟨_, fun _ => rfl, logTake_effects⟩
  | segmentEnable => exact ⟨_, fun _ => rfl, segmentEnable_effects⟩
  | segmentDisable => exact ⟨_, fun _ => rfl, segmentDisable_effects⟩
  | drain => exact ⟨_, fun _ => rfl, drain_effects⟩
  | purgeLane => exact ⟨_, fun _ => rfl, purgeLane_effects⟩
  | brokerReset => exact ⟨_, fun _ => rfl, brokerReset_effects⟩

/-- Each management operation has its row. -/
theorem mgmtRow (op : MgmtOp) : ∃ handler, IntakeRow (commandOf op) handler := by
  obtain ⟨effect, takes, effects⟩ := exists_effect op
  refine ⟨_, takes, fun n p h hh => ?_, fun n r => ?_⟩
  · split at hh
    · split at hh
      · obtain rfl := Option.some.inj hh
        exact manage_handles effects n _
      · contradiction
    · contradiction
  · cases r with
    | mgmt x args =>
      rw [takenBy, commandOf_inj]
      by_cases same : x = op
      · simp only [same, if_true, Option.isSome_some]
      · simp only [same, if_false, Option.isSome_none, Bool.false_eq_true]
    | _ =>
      refine iff_of_false Bool.false_ne_true fun h => commandOf_ne op ?_
      rw [← h]
      simp [takenBy]

theorem malformedRow : ∃ handler, IntakeRow .malformedParcel handler := by
  refine ⟨_, fun _ => rfl, fun n p h hh => ?_, fun n r => ?_⟩
  · split at hh
    · obtain rfl := Option.some.inj hh
      exact fun s _ => .refl
    · contradiction
  · cases r with
    | malformed => exact iff_of_true rfl rfl
    | mgmt op args => exact iff_of_false Bool.false_ne_true (takenBy_mgmt_ne (by decide) op args)
    | _ => exact iff_of_false Bool.false_ne_true nofun

theorem readRow : ∃ handler, IntakeRow .read handler := by
  refine ⟨_, fun _ => rfl, fun n p h hh => ?_, fun n r => ?_⟩
  · split at hh
    · rename_i form
      obtain rfl := Option.some.inj hh
      exact gated_handles (readStream_handles (spanOk_of_read form) n)
    · contradiction
  · cases r with
    | read a w => exact iff_of_true rfl rfl
    | mgmt op args => exact iff_of_false Bool.false_ne_true (takenBy_mgmt_ne (by decide) op args)
    | _ => exact iff_of_false Bool.false_ne_true nofun

theorem writeRow : ∃ handler, IntakeRow .write handler := by
  refine ⟨_, fun _ => rfl, fun n p h hh => ?_, fun n r => ?_⟩
  · split at hh
    · rename_i form
      obtain rfl := Option.some.inj hh
      exact gated_handles (writeMatch_handles (spanOk_of_write form) n)
    · contradiction
  · cases r with
    | write a ws => exact iff_of_true rfl rfl
    | mgmt op args => exact iff_of_false Bool.false_ne_true (takenBy_mgmt_ne (by decide) op args)
    | _ => exact iff_of_false Bool.false_ne_true nofun

theorem fenceRow : ∃ handler, IntakeRow .fence handler := by
  refine ⟨_, fun _ => rfl, fun n p h hh => ?_, fun n r => ?_⟩
  · split at hh
    · obtain rfl := Option.some.inj hh
      exact gated_handles (fenceAnswer_handles n)
    · contradiction
  · cases r with
    | fence => exact iff_of_true rfl rfl
    | mgmt op args => exact iff_of_false Bool.false_ne_true (takenBy_mgmt_ne (by decide) op args)
    | _ => exact iff_of_false Bool.false_ne_true nofun

/-- Every row of a request takes it. -/
theorem requestRow (r : Request) : ∃ handler, IntakeRow (takenBy r) handler := by
  cases r with
  | malformed => exact malformedRow
  | read a w => exact readRow
  | write a ws => exact writeRow
  | fence => exact fenceRow
  | mgmt op args => exact mgmtRow op

/-- The commands of the intake are the rows of the requests. -/
theorem mem_intakeCommands {c : Instr} (h : c ∈ intakeCommands) : ∃ r : Request, takenBy r = c := by
  simp only [intakeCommands, List.mem_cons, List.not_mem_nil, or_false] at h
  rcases h with rfl | rfl | rfl | rfl | rfl | rfl | rfl | rfl | rfl | rfl | rfl | rfl | rfl | rfl | rfl | rfl | rfl |
    rfl | rfl | rfl
  exacts [⟨.malformed, rfl⟩, ⟨.read 0 0, rfl⟩, ⟨.write 0 [], rfl⟩, ⟨.fence, rfl⟩, ⟨.mgmt .claim [], rfl⟩,
    ⟨.mgmt .release [], rfl⟩, ⟨.mgmt .openGate [], rfl⟩, ⟨.mgmt .closeGate [], rfl⟩, ⟨.mgmt .stageWindow [], rfl⟩,
    ⟨.mgmt .readWindow [], rfl⟩, ⟨.mgmt .commit [], rfl⟩, ⟨.mgmt .setParameter [], rfl⟩, ⟨.mgmt .getParameter [], rfl⟩,
    ⟨.mgmt .getStatus [], rfl⟩, ⟨.mgmt .logTake [], rfl⟩, ⟨.mgmt .segmentEnable [], rfl⟩,
    ⟨.mgmt .segmentDisable [], rfl⟩, ⟨.mgmt .drain [], rfl⟩, ⟨.mgmt .purgeLane [], rfl⟩, ⟨.mgmt .brokerReset [], rfl⟩]

/-- Every command of the intake is a run of changes. -/
theorem request_moves (r : Request) (s : State) : ∃ t, exec (takenBy r) s = .next t ∧ Moves s t := by
  obtain ⟨handler, row⟩ := requestRow r
  exact ⟨_, row.takes s, takeParcel_moves row.works s⟩

/-! ### Every command -/

/-- What a command leads to: a run of changes, and after it, of TIMEBASE_ADVANCE, one µs more with nothing due. -/
abbrev Leads (s t : State) : Prop :=
  Moves s t ∨ ∃ u : State, Moves s u ∧ (s.params.inRange → NothingDue u) ∧ t = advanceTimebase u

theorem exec_leads (c : Instr) (s : State) : ∃ t, exec c s = .next t ∧ Leads s t := by
  have moved {o : Host.Outcome State Fault Refusal} (h : ∃ t, o = .next t ∧ Moves s t) : ∃ t, o = .next t ∧ Leads s t :=
    h.imp fun _ => And.imp_right .inl
  have request (r : Request) : ∃ t, exec (takenBy r) s = .next t ∧ Leads s t := moved (request_moves r s)
  cases c with
  | powerOnReset => exact ⟨_, rfl, .inl (.single (.event .powerOn))⟩
  | timebaseAdvance => exact ⟨_, rfl, .inr ⟨_, takeDue_moves s, nothingDue_takeDue, rfl⟩⟩
  | arrival n => exact ⟨_, rfl, .inl (arrivalEvent_moves n s)⟩
  | departure n => exact ⟨_, rfl, .inl (departureEvent_moves n s)⟩
  | parcelDelivery n p => exact ⟨_, rfl, .inl (deliveryEvent_moves n p s)⟩
  | parcelSend n => exact ⟨_, rfl, .inl (.single (.event (.send n)))⟩
  | malformedParcel => exact request .malformed
  | read => exact request (.read 0 0)
  | write => exact request (.write 0 [])
  | fence => exact request .fence
  | claim => exact request (.mgmt .claim [])
  | release => exact request (.mgmt .release [])
  | openGate => exact request (.mgmt .openGate [])
  | closeGate => exact request (.mgmt .closeGate [])
  | stageWindow => exact request (.mgmt .stageWindow [])
  | readWindow => exact request (.mgmt .readWindow [])
  | commit => exact request (.mgmt .commit [])
  | setParameter => exact request (.mgmt .setParameter [])
  | getParameter => exact request (.mgmt .getParameter [])
  | getStatus => exact request (.mgmt .getStatus [])
  | logTake => exact request (.mgmt .logTake [])
  | segmentEnable => exact request (.mgmt .segmentEnable [])
  | segmentDisable => exact request (.mgmt .segmentDisable [])
  | drain => exact request (.mgmt .drain [])
  | purgeLane => exact request (.mgmt .purgeLane [])
  | brokerReset => exact request (.mgmt .brokerReset [])
  | grant g => exact ⟨_, rfl, .inl (grantEvent_moves g s)⟩
  | targetClaim g => exact ⟨_, rfl, .inl (claimEvent_moves g s)⟩
  | wordPass g w parity => exact ⟨_, rfl, .inl (wordEvent_moves g w parity s)⟩
  | cycleEnd g x => exact ⟨_, rfl, .inl (cycleEndEvent_moves g x s)⟩
  | claimLimitExpiry g => exact ⟨_, rfl, .inl (claimLimitEvent_moves g s)⟩
  | holdLimitExpiry g => exact ⟨_, rfl, .inl (holdLimitEvent_moves g s)⟩
  | discardExpiry i => exact ⟨_, rfl, .inl (discardEvent_moves i s)⟩
  | closeTime g => exact ⟨_, rfl, .inl (closeTimeEvent_moves g s)⟩
  | idleExpiry i => exact ⟨_, rfl, .inl (idleEvent_moves i s)⟩

/-! ### The commands that wait (notes/assumptions/8.md) -/

theorem Part.pending {g : Segment} {s t : State} (p : Part g s t) : t.pending = s.pending := by
  cases p with
  | work w => exact w.lanesKept.2.2
  | _ => rfl

theorem Event.pending {s t : State} (e : Event s t) : t.pending = s.pending := by
  cases e with
  | leave n _ => rw [leaveLane_fields]
  | _ => rfl

theorem Move.pending {s t : State} (m : Move s t) : t.pending = s.pending := by
  cases m with
  | work w => exact w.lanesKept.2.2
  | event e => exact e.pending
  | finish g c e cycle _ =>
    exact kept_by_run (p := fun u => u.pending = s.pending) (fun _ _ last before => last.pending.trans before)
      (finished_parts cycle e) rfl

theorem Moves.pending {s t : State} (m : Moves s t) : t.pending = s.pending :=
  kept_by_run (p := fun u => u.pending = s.pending) (fun _ _ last before => last.pending.trans before) m rfl

/-- Settles O2: every command leads to a next state by changes that leave the queue of commands. -/
theorem everyCommandAnswersNext : Obligations.EveryCommandAnswersNext := by
  intro c s
  obtain ⟨t, next, moved | ⟨u, moved, -, rfl⟩⟩ := exec_leads c s
  · exact ⟨t, next, moved.pending⟩
  · exact ⟨_, next, moved.pending⟩

/-! ### What a step keeps -/

/-- A step keeps what does not depend on the commands that wait, every change keeps, and the advance of the timebase
keeps when nothing is due. -/
theorem keptByStep_of_moves {p : State → Prop} (pending : ∀ s l, p s → p { s with pending := l })
    (move : ∀ s t, Move s t → p s → p t)
    (advance : ∀ s u, p s → p u → (s.params.inRange → NothingDue u) → p (advanceTimebase u)) : KeptByStep p := by
  intro s t hs stepped
  rcases step_cases s with ⟨-, idles⟩ | ⟨c, rest, -, runs⟩
  · rw [idles] at stepped
    obtain rfl := Host.Outcome.next.inj stepped
    exact hs
  · have hr := pending s rest hs
    obtain ⟨v, next, leads⟩ := exec_leads c { s with pending := rest }
    rw [runs, next] at stepped
    obtain rfl := Host.Outcome.next.inj stepped
    rcases leads with moved | ⟨u, moved, undue, rfl⟩
    · exact kept_by_run move moved hr
    · exact advance _ u hr (kept_by_run move moved hr) undue

/-- The same of a property that every part of the end of a cycle keeps too, and that does not depend on the
timebase. -/
theorem keptByStep_of_parts {p : State → Prop} (pending : ∀ s l, p s → p { s with pending := l })
    (advance : ∀ s, p s → p (advanceTimebase s)) (part : ∀ g s t, Part g s t → p s → p t)
    (event : ∀ s t, Event s t → p s → p t) : KeptByStep p := by
  refine keptByStep_of_moves pending (fun s t m hs => ?_) fun _ u _ hu _ => advance u hu
  cases m with
  | work w => exact part .a s t (.work w) hs
  | event e => exact event s t e hs
  | finish g c e cycle _ => exact kept_by_run (part g) (finished_parts cycle e) hs

end Sys2Proof.Machine
end

section
/-! What every step keeps, first part: the log, the counts and parameters, the lanes and the role (R102, R141, R154,
R155, R158, R165, R174, R186 to R188). -/

namespace Sys2Proof.Machine

/-! ### Sequence numbers -/

/-- The keys of a list are given by its places when each of them is. -/
theorem map_eq_range_map_iff {α β : Type} {l : List α} {key : α → β} {f : Nat → β} :
    l.map key = (List.range l.length).map f ↔ ∀ (i : Nat) (h : i < l.length), key l[i] = f i := by
  constructor
  · intro same i h
    have := congrArg (fun m => m[i]?) same
    simpa [h] using this
  · intro each
    refine List.ext_getElem (by simp) fun i h _ => ?_
    simpa using each i (by simpa using h)

/-! ### The log (R154, R155, R157) -/

/-- What LogOk says of the log. -/
abbrev ExceptionLog.ok (l : ExceptionLog) : Prop :=
  l.records.length ≤ 64 ∧ l.lost ≤ 65535 ∧ (l.lost ≠ 0 → l.records.length = 64) ∧
    l.records.map LogRecord.seq =
      (List.range l.records.length).map fun i => l.counter - BitVec.ofNat 16 (l.records.length - i)

theorem ExceptionLog.hand_ok {l : ExceptionLog} (h : l.ok) (now : Time) (b : RecordBody) : (l.hand now b).ok := by
  obtain ⟨length, lost, full, seqs⟩ := h
  rcases l.hand_cases now b with ⟨room, stored⟩ | ⟨noRoom, counted⟩
  · rw [stored]
    refine ⟨by simp; omega, lost, fun some => absurd (full some) (by omega), map_eq_range_map_iff.2 fun i hi => ?_⟩
    rw [map_eq_range_map_iff] at seqs
    rw [List.length_append, List.length_singleton] at hi ⊢
    by_cases old : i < l.records.length
    · have later : l.records.length + 1 - i = (l.records.length - i) + 1 := by omega
      simp only [List.getElem_append_left old, seqs i old, later, BitVec.ofNat_add]
      bv_omega
    · obtain rfl : i = l.records.length := by omega
      simp
  · rw [counted]
    exact ⟨length, Nat.min_le_right _ _, fun _ => Nat.le_antisymm length noRoom, seqs⟩

theorem ExceptionLog.taken_ok {l : ExceptionLog} (h : l.ok) : l.taken.ok := by
  obtain ⟨length, -, -, seqs⟩ := h
  refine ⟨?_, Nat.zero_le _, fun some => absurd rfl some, map_eq_range_map_iff.2 fun i hi => ?_⟩
  · simp only [ExceptionLog.taken, List.length_drop]
    omega
  · rw [map_eq_range_map_iff] at seqs
    simp only [ExceptionLog.taken, List.length_drop] at hi ⊢
    rw [List.getElem_drop, seqs (4 + i) (by omega)]
    congr 2
    omega

theorem setParams_log (p : Parameters) (s : State) : (setParams p s).log = s.log ∨
    (setParams p s).log = { s.log with alertOutstanding := false } := by
  unfold setParams
  dsimp only
  exact (ite_eq_or_eq _ _ _).symm

/-- Settles O6: a record is handed or records are taken, and nothing else touches the records. -/
theorem logSequencesKept : Obligations.LogSequencesKept := by
  refine keptByStep_of_parts (fun _ _ h => h) (fun _ h => h) (fun g s t part h => ?_) fun s t event h => ?_
  · cases part with
    | work w =>
      cases w with
      | record b => exact ExceptionLog.hand_ok h s.timebase b
      | takeLog => exact ExceptionLog.taken_ok h
      | params p _ =>
        rw [LogOk]
        rcases setParams_log p s with same | cleared
        · rwa [same]
        · rw [cleared]
          exact h
      | discard g c =>
        rw [discardQueue_fields]
        exact h
      | _ => exact h
    | _ => exact h
  · cases event with
    | powerOn => exact (by decide : ExceptionLog.reset.ok)
    | leave n _ =>
      rw [leaveLane_fields, LogOk]
      dsimp only
      split <;> exact h
    | _ => exact h

/-! ### Counts and parameters (R102, R141, R174) -/

theorem countFailedWrite_small {s : State} (h : ∀ n : LaneId, s.failedWrites[n] ≤ 255) (o : Owner) (n : LaneId) :
    (countFailedWrite o s).failedWrites[n] ≤ 255 := by
  rcases countFailedWrite_cases o s with ⟨-, -, counted⟩ | ⟨-, same⟩
  · rw [counted]
    exact forall_set (p := fun _ k => k ≤ 255) h (Nat.min_le_right _ _) n
  · rw [same]
    exact h n

theorem discardEntries_small (g : Segment) (es : List QueueEntry) {s : State} (h : ∀ n : LaneId, s.failedWrites[n] ≤ 255) :
    ∀ n : LaneId, (discardEntries g es s).failedWrites[n] ≤ 255 := by
  induction es generalizing s with
  | nil => exact h
  | cons e es ih => exact ih (countFailedWrite_small (s := meetBarriers g e.seq s) h e.owner)

/-- What CountsOk says, by the segment. -/
structure CountsSmall (s : State) : Prop where
  writes : ∀ n : LaneId, s.failedWrites[n] ≤ 255
  engines : ∀ g : Segment, (s.engines.get g).failures ≤ 255
  params : s.params.inRange

theorem countsOk_iff {s : State} : CountsOk s ↔ CountsSmall s := by
  constructor
  · rintro ⟨writes, a, b, params⟩
    refine ⟨writes, fun g => ?_, params⟩
    cases g
    exacts [a, b]
  · rintro ⟨writes, engines, params⟩
    exact ⟨writes, engines .a, engines .b, params⟩

section
variable {s t : State}

theorem CountsSmall.setEngine (h : CountsSmall s) (g : Segment) {e : Engine} (small : e.failures ≤ 255) :
    CountsSmall (s.setEngine g e) :=
  { h with engines := PerSegment.forall_set (p := fun _ (e : Engine) => e.failures ≤ 255) h.engines small }

theorem CountsSmall.setFailedWrites (h : CountsSmall s) (n : LaneId) {k : Nat} (small : k ≤ 255) :
    CountsSmall (s.setFailedWrites n k) :=
  { h with writes := forall_set (p := fun _ k => k ≤ 255) h.writes small }

theorem Part.countsSmall {g : Segment} (part : Part g s t) (h : CountsSmall s) : CountsSmall t := by
  cases part with
  | work w =>
    cases w with
    | clearFence n => exact { h.setFailedWrites n (Nat.zero_le 255) with }
    | params p inRange => exact { h with params := inRange h.params }
    | mark g x count _ small =>
      refine h.setEngine g ?_
      rcases small with range | same
      · exact range
      · exact same ▸ h.engines g
    | discard g c =>
      rw [discardQueue_fields]
      exact { h with writes := discardEntries_small g _ h.writes }
    | _ => exact { h with }
  | idle => exact h.setEngine g (h.engines g)
  | charge n count small => exact h.setFailedWrites n small
  | _ => exact { h with }

theorem Event.countsSmall (event : Event s t) (h : CountsSmall s) : CountsSmall t := by
  cases event with
  | powerOn => exact countsOk_iff.1 (by decide : CountsOk State.reset)
  | arrive n _ => exact { h.setFailedWrites n (Nat.zero_le 255) with }
  | leave n _ =>
    rw [leaveLane_fields]
    exact { h with }
  | grantW g e _ _ _ => exact h.setEngine g (h.engines g)
  | grantF g i _ _ _ => exact CountsSmall.setEngine (s := s.setEntry i _) { h with } g (h.engines g)
  | grantR g i r _ _ _ _ _ => exact CountsSmall.setEngine (s := s.setSlot i _) { h with } g (h.engines g)
  | claim g c _ => exact h.setEngine g (h.engines g)
  | word g c w parity _ _ => exact h.setEngine g (h.engines g)
  | faulted g _ _ _ _ => exact h.setEngine g (h.engines g)
  | _ => exact { h with }

end

/-- Settles O11: counts rise no further than 255, and parameters are set within their ranges. -/
theorem countsAndParametersInRangeKept : Obligations.CountsAndParametersInRangeKept :=
  keptByStep_of_parts (fun _ _ h => h) (fun _ h => h)
    (fun _ _ _ part h => countsOk_iff.2 (part.countsSmall (countsOk_iff.1 h)))
    fun _ _ event h => countsOk_iff.2 (event.countsSmall (countsOk_iff.1 h))

/-! ### Lanes and role (R158, R165, R186 to R188) -/

theorem Lane.waiting_length (l : Lane) : l.waiting.length = l.responses := List.countP_eq_length_filter.symm

section
variable {l : Lane}

theorem Lane.buffersOk_deliver (h : l.buffersOk) (up : l.state = .up) (room : l.rx.length < 2) (p : Parcel) :
    ({ l with rx := l.rx ++ [p] } : Lane).buffersOk := by
  obtain ⟨-, tx, alerts, -⟩ := h
  refine ⟨?_, tx, alerts, fun down => ?_⟩
  · rw [List.length_append, List.length_singleton]
    omega
  · rw [show l.state = .down from down] at up
    contradiction

theorem Lane.buffersOk_take (h : l.buffersOk) : ({ l with rx := l.rx.tail } : Lane).buffersOk := by
  obtain ⟨rx, tx, alerts, down⟩ := h
  refine ⟨?_, tx, alerts, fun d => ⟨by rw [(down d).1]; rfl, (down d).2⟩⟩
  rw [List.length_tail]
  omega

theorem Lane.buffersOk_sendFront (h : l.buffersOk) : l.sendFront.buffersOk := by
  obtain ⟨rx, tx, alerts, down⟩ := h
  unfold Lane.sendFront
  split
  · exact ⟨rx, tx, alerts, down⟩
  · rename_i p rest sent
    have fewer (f : TxParcel → Bool) : rest.countP f ≤ l.tx.countP f := by
      rw [sent]
      exact (List.sublist_cons_self p rest).countP_le
    refine ⟨rx, (fewer _).trans tx, (fewer _).trans alerts, fun d => ?_⟩
    rw [(down d).2] at sent
    contradiction

theorem Lane.buffersOk_pushResponse (h : l.buffersOk) (up : l.state = .up) (room : l.responses < 2) (r : Response) :
    (l.pushResponse r).buffersOk := by
  obtain ⟨rx, -, alerts, -⟩ := h
  refine ⟨rx, ?_, ?_, fun down => ?_⟩
  · rw [Lane.responses, Lane.pushResponse, List.countP_append]
    exact room
  · rw [Lane.alerts, Lane.pushResponse, List.countP_append]
    exact alerts
  · rw [show l.state = .down from down] at up
    contradiction

theorem Lane.placeAlert_state (records lost : Nat) : (l.placeAlert records lost).state = l.state := by
  unfold Lane.placeAlert
  split <;> rfl

theorem Lane.buffersOk_placeAlert (h : l.buffersOk) (up : l.state = .up) (records lost : Nat) :
    (l.placeAlert records lost).buffersOk := by
  obtain ⟨rx, tx, alerts, -⟩ := h
  have notDown {p : Prop} (down : (l.placeAlert records lost).state = .down) : p := by
    rw [Lane.placeAlert_state, up] at down
    contradiction
  unfold Lane.responses at tx
  unfold Lane.alerts at alerts
  unfold Lane.placeAlert at notDown ⊢
  split
  · rename_i waits
    refine ⟨rx, ?_, ?_, fun down => notDown (by rwa [if_pos waits])⟩
    · rw [Lane.responses, List.countP_map]
      refine (List.countP_mono_left fun p _ response => ?_).trans tx
      cases p <;> simp_all [TxParcel.isAlert, TxParcel.isResponse]
    · rw [Lane.alerts, List.countP_map]
      refine (List.countP_mono_left fun p _ alert => ?_).trans alerts
      cases p <;> simp_all [TxParcel.isAlert]
  · rename_i none
    refine ⟨rx, ?_, ?_, fun down => notDown (by rwa [if_neg none])⟩
    · rw [Lane.responses, List.countP_append]
      exact tx
    · rw [Lane.alerts, List.countP_append, List.countP_eq_zero.2 (by simpa using none)]
      exact Nat.le_refl 1

end

section
variable {s t : State}

theorem lanes_modify {n : LaneId} {f : Lane → Lane} (h : LanesAndRoleOk s) (ok : (f s.lanes[n]).buffersOk)
    (state : (f s.lanes[n]).state = s.lanes[n].state) : LanesAndRoleOk (s.modifyLane n f) := by
  obtain ⟨buffers, up, alert⟩ := h
  refine ⟨forall_set (p := fun _ (l : Lane) => l.buffersOk) buffers ok, ?_, alert⟩
  exact forall_set (p := fun m (l : Lane) => s.manager = some m → l.state = .up) up fun manager => state.trans (up n manager)

theorem Part.lanesAndRoleOk {g : Segment} (part : Part g s t) (h : LanesAndRoleOk s) : LanesAndRoleOk t := by
  obtain ⟨buffers, up, alert⟩ := id h
  cases part with
  | work w =>
    cases w with
    | claim n laneUp => exact ⟨buffers, fun m manager => Option.some.inj manager ▸ laneUp, fun none => by cases none⟩
    | endRole => exact ⟨buffers, fun m manager => (Option.some_ne_none m manager.symm).elim, fun _ => rfl⟩
    | params p _ =>
      refine ⟨buffers, up, fun none => ?_⟩
      rcases setParams_log p s with same | cleared
      · rw [same]
        exact alert none
      · rw [cleared]
    | takeLog => exact ⟨buffers, up, fun _ => rfl⟩
    | epoch m _ => exact lanes_modify h (buffers m) rfl
    | record b =>
      refine ⟨buffers, up, fun none => ?_⟩
      rcases s.log.hand_cases s.timebase b with ⟨-, stored⟩ | ⟨-, counted⟩
      · exact (congrArg ExceptionLog.alertOutstanding stored).trans (alert none)
      · exact (congrArg ExceptionLog.alertOutstanding counted).trans (alert none)
    | discard g c =>
      rw [discardQueue_fields]
      exact h
    | _ => exact h
  | _ => exact h

theorem leaveLane_lanesAndRoleOk (n : LaneId) (h : LanesAndRoleOk s) : LanesAndRoleOk (leaveLane n s) := by
  obtain ⟨buffers, up, alert⟩ := h
  rw [leaveLane_fields]
  refine ⟨forall_set (p := fun _ (l : Lane) => l.buffersOk) buffers ⟨by simp, by simp [Lane.responses],
    by simp [Lane.alerts], fun _ => ⟨rfl, rfl⟩⟩, fun m manager => ?_, fun none => ?_⟩
  · dsimp only at manager ⊢
    split at manager
    · cases manager
    · rename_i other
      rw [table_set_ne _ _ (by rintro rfl; exact other manager)]
      exact up m manager
  · dsimp only at none ⊢
    split
    · rfl
    · rename_i other
      rw [if_neg other] at none
      exact alert none

theorem Event.lanesAndRoleOk (event : Event s t) (h : LanesAndRoleOk s) : LanesAndRoleOk t := by
  obtain ⟨buffers, up, alert⟩ := id h
  cases event with
  | powerOn => exact (by decide : LanesAndRoleOk State.reset)
  | arrive n down =>
    refine ⟨forall_set (p := fun _ (l : Lane) => l.buffersOk) buffers ⟨by simp, by simp [Lane.responses],
      by simp [Lane.alerts], fun _ => ⟨rfl, rfl⟩⟩, ?_, alert⟩
    exact forall_set (p := fun m (l : Lane) => s.manager = some m → l.state = .up) up fun _ => rfl
  | leave n _ => exact leaveLane_lanesAndRoleOk n h
  | deliver n p laneUp room => exact lanes_modify h (Lane.buffersOk_deliver (buffers n) laneUp room p) rfl
  | send n =>
    refine lanes_modify h (Lane.buffersOk_sendFront (buffers n)) ?_
    unfold Lane.sendFront
    split <;> rfl
  | take n => exact lanes_modify (f := fun l => { l with rx := l.rx.tail }) h (Lane.buffersOk_take (buffers n)) rfl
  | respond n r laneUp room => exact lanes_modify h (Lane.buffersOk_pushResponse (buffers n) laneUp room r) rfl
  | alert m manager =>
    obtain ⟨buffers', up', -⟩ := lanes_modify h (f := fun l => l.placeAlert s.log.records.length s.log.lost)
      (Lane.buffersOk_placeAlert (buffers m) (up m manager) _ _) (Lane.placeAlert_state _ _)
    exact ⟨buffers', up', fun free => (Option.some_ne_none m (manager.symm.trans free)).elim⟩
  | _ => exact h

end

/-- Settles O5: each buffer by what enters and leaves it, and the role by who takes it and how it ends. -/
theorem laneBuffersAndRoleKept : Obligations.LaneBuffersAndRoleKept :=
  keptByStep_of_parts (fun _ _ h => h) (fun _ h => h) (fun _ _ _ part => part.lanesAndRoleOk)
    fun _ _ event => event.lanesAndRoleOk

end Sys2Proof.Machine
end

section
/-! What every step keeps, second part: the numbering of the queues (R69, R71, R77). -/

namespace Sys2Proof.Machine

section
variable {q : PostedQueue}

/-- What a queue in order says of its entries one by one. -/
theorem PostedQueue.ok_iff : q.ok ↔ q.entries.length ≤ 32 ∧ q.counter = q.retired + BitVec.ofNat 16 q.entries.length ∧
    (∀ (i : Nat) (h : i < q.entries.length), q.entries[i].seq = q.retired + BitVec.ofNat 16 (i + 1)) ∧
    q.entries.dropLast.all QueueEntry.closed = true := by
  rw [← map_eq_range_map_iff]

/-- An order of entries that agree in their numbers, with all but the tail closed, is as good as another. -/
theorem PostedQueue.ok_of_same_seqs {es : List QueueEntry} (h : q.ok)
    (seqs : es.map QueueEntry.seq = q.entries.map QueueEntry.seq)
    (closed : es.dropLast.all QueueEntry.closed = true) : ({ q with entries := es } : PostedQueue).ok := by
  obtain ⟨length, counter, numbers, -⟩ := h
  have same : es.length = q.entries.length := by simpa using congrArg List.length seqs
  refine ⟨?_, ?_, ?_, closed⟩
  · rwa [same]
  · rwa [same]
  · rw [seqs, same]
    exact numbers

theorem PostedQueue.ok_closeTail (h : q.ok) : q.closeTail.ok := by
  refine PostedQueue.ok_of_same_seqs h (mapLast_map QueueEntry.close _ (fun _ => rfl) _) ?_
  rw [mapLast_dropLast]
  exact h.2.2.2

theorem append_seq (e : QueueEntry) (ws : List WriteWord) : (e.append ws).seq = e.seq := by
  unfold QueueEntry.append
  dsimp only
  split <;> rfl

theorem PostedQueue.ok_merge (h : q.ok) {e : QueueEntry} (tail : q.tail = some e) (ws : List WriteWord) :
    ({ q with entries := q.entries.dropLast ++ [e.append ws] } : PostedQueue).ok := by
  refine PostedQueue.ok_of_same_seqs h ?_ ?_
  · rw [← mapLast_of_getLast? (f := fun e => e.append ws) (show q.entries.getLast? = some e from tail)]
    exact mapLast_map _ _ (fun e => append_seq e ws) _
  · rw [List.dropLast_concat]
    exact h.2.2.2

/-- Every entry of a queue whose tail was closed is closed. -/
theorem PostedQueue.closeTail_closed (h : q.ok) : q.closeTail.entries.all QueueEntry.closed = true := by
  have closed := h.2.2.2
  rcases List.eq_nil_or_concat q.entries with empty | ⟨es, e, entries⟩
  · rw [PostedQueue.closeTail, empty]
    rfl
  · rw [List.concat_eq_append] at entries
    rw [entries, List.dropLast_concat] at closed
    rw [PostedQueue.closeTail, entries, mapLast_concat, List.all_append, closed]
    rfl

theorem PostedQueue.ok_push (h : q.ok) (room : q.entries.length < 32) {e : QueueEntry} (number : e.seq = q.counter + 1) :
    (q.push e).ok := by
  obtain ⟨-, counter, seqs, -⟩ := PostedQueue.ok_iff.1 (PostedQueue.ok_closeTail h)
  have length : q.closeTail.entries.length = q.entries.length := mapLast_length _ _
  have next : q.counter + 1 = q.retired + BitVec.ofNat 16 (q.entries.length + 1) := by
    rw [h.2.1, BitVec.ofNat_add, BitVec.add_assoc]
    rfl
  refine PostedQueue.ok_iff.2 ⟨?_, ?_, fun i hi => ?_, ?_⟩
  · rw [PostedQueue.push, List.length_append, List.length_singleton, length]
    omega
  · rw [PostedQueue.push, List.length_append, List.length_singleton, length]
    exact number.trans next
  · simp only [PostedQueue.push, List.length_append, List.length_singleton] at hi ⊢
    by_cases old : i < q.closeTail.entries.length
    · rw [List.getElem_append_left old]
      exact seqs i old
    · obtain rfl : i = q.closeTail.entries.length := by omega
      rw [List.getElem_concat_length rfl, number, next, length]
  · rw [PostedQueue.push, List.dropLast_concat]
    exact PostedQueue.closeTail_closed h

theorem PostedQueue.ok_retire (h : q.ok) {e : QueueEntry} {rest : List QueueEntry} (head : q.entries = e :: rest) :
    ({ q with entries := rest, retired := e.seq } : PostedQueue).ok := by
  obtain ⟨length, counter, seqs, closed⟩ := PostedQueue.ok_iff.1 h
  simp only [head, List.length_cons] at length counter seqs
  have first : e.seq = q.retired + 1 := seqs 0 (by omega)
  refine PostedQueue.ok_iff.2 ⟨by dsimp only; omega, ?_, fun i hi => ?_, ?_⟩
  · dsimp only
    rw [counter, first, Nat.add_comm, BitVec.ofNat_add, BitVec.add_assoc]
    rfl
  · have next : rest[i].seq = _ := seqs (i + 1) (Nat.succ_lt_succ hi)
    dsimp only
    rw [next, first, Nat.add_comm, BitVec.ofNat_add, BitVec.add_assoc]
    rfl
  · dsimp only
    cases rest with
    | nil => rfl
    | cons d rest =>
      rw [head, List.dropLast_cons_cons, List.all_cons, Bool.and_eq_true] at closed
      exact closed.2

theorem PostedQueue.ok_stay (h : q.ok) {e d : QueueEntry} {rest : List QueueEntry} (head : q.entries = e :: rest)
    (seq : d.seq = e.seq) (closeTime : d.closeTime = e.closeTime) :
    ({ q with entries := d :: rest } : PostedQueue).ok := by
  refine PostedQueue.ok_of_same_seqs h (by rw [head, List.map_cons, List.map_cons, seq]) ?_
  have closed := h.2.2.2
  cases rest with
  | nil => rfl
  | cons x rest =>
    rw [head, List.dropLast_cons_cons, List.all_cons] at closed
    rw [List.dropLast_cons_cons, List.all_cons, QueueEntry.closed, closeTime]
    exact closed

theorem PostedQueue.ok_discard (q : PostedQueue) : ({ q with entries := [], retired := q.counter } : PostedQueue).ok :=
  ⟨by simp, by simp, rfl, rfl⟩

end

/-- Both queues are in order, by the segment. -/
abbrev BothQueuesOk (s : State) : Prop := ∀ g : Segment, (s.queues.get g).ok

theorem queuesOk_iff {s : State} : QueuesOk s ↔ BothQueuesOk s := by
  refine ⟨fun h g => ?_, fun h => ⟨h .a, h .b⟩⟩
  cases g
  exacts [h.1, h.2]

section
variable {s t : State}

theorem Part.queuesOk {g : Segment} (part : Part g s t) (h : BothQueuesOk s) : BothQueuesOk t := by
  have set (k : Segment) {q : PostedQueue} (ok : q.ok) : BothQueuesOk (s.setQueue k q) :=
    PerSegment.forall_set (p := fun _ (q : PostedQueue) => q.ok) h ok
  cases part with
  | work w =>
    cases w with
    | closeTail k => exact set k (PostedQueue.ok_closeTail (h k))
    | merge o k a ws e tail _ _ => exact set _ (PostedQueue.ok_merge (h _) tail ws)
    | push o k a ws room _ =>
      refine set _ (PostedQueue.ok_push (h _) room ?_)
      unfold newQueueEntry
      dsimp only
      split <;> rfl
    | discard k c =>
      rw [discardQueue_fields]
      exact set k (PostedQueue.ok_discard _)
    | _ => exact h
  | retire e rest head => exact set g (PostedQueue.ok_retire (h g) head)
  | stay e rest progress backoff head => exact set g (PostedQueue.ok_stay (h g) head rfl rfl)
  | _ => exact h

theorem Event.queuesOk (event : Event s t) (h : BothQueuesOk s) : BothQueuesOk t := by
  cases event with
  | powerOn => exact queuesOk_iff.1 (by decide : QueuesOk State.reset)
  | leave n _ =>
    rw [leaveLane_fields]
    exact h
  | _ => exact h

end

/-- Settles O7: a queue by its operations, which each keep the numbering and leave none but the tail open. -/
theorem queueNumberingKept : Obligations.QueueNumberingKept :=
  keptByStep_of_parts (fun _ _ h => h) (fun _ h => h)
    (fun _ _ _ part h => queuesOk_iff.2 (part.queuesOk (queuesOk_iff.1 h)))
    fun _ _ event h => queuesOk_iff.2 (event.queuesOk (queuesOk_iff.1 h))

end Sys2Proof.Machine
end

section
/-! What every step keeps, third part: entries that a repeat may match are no duplicates, and they, the slots that serve
and the fence records belong to the card now on their lane (R41, R47, R93, R109, R192). -/

namespace Sys2Proof.Machine

/-! ### What a change makes of a matchable entry -/

/-- Two entries hold the same request. -/
structure DttEntry.Repeats (e f : DttEntry) : Prop where
  owner : f.owner = e.owner
  kind : f.kind = e.kind
  address : f.address = e.address
  words : f.words = e.words
  writeWords : f.writeWords = e.writeWords

/-- An entry f that a repeat may match held the same request as the entry e that a repeat could match. -/
abbrev DttEntry.Continues (e f : DttEntry) : Prop := f.matchable = true → e.matchable = true ∧ e.Repeats f

theorem DttEntry.continues_refl (e : DttEntry) : e.Continues e := fun h => ⟨h, ⟨rfl, rfl, rfl, rfl, rfl⟩⟩

theorem DttEntry.continues_of_not {e f : DttEntry} (h : f.matchable = false) : e.Continues f := fun matches_ => by
  rw [h] at matches_
  contradiction

theorem DttEntry.continues_meet (e : DttEntry) (g : Segment) (b : Seq) : e.Continues (e.meet g b) := by
  unfold DttEntry.meet
  split <;> exact fun h => ⟨h, ⟨rfl, rfl, rfl, rfl, rfl⟩⟩

theorem DttEntry.continues_meetAll (e : DttEntry) (g : Segment) (es : List QueueEntry) : e.Continues (e.meetAll g es) := by
  unfold DttEntry.meetAll
  split <;> exact fun h => ⟨h, ⟨rfl, rfl, rfl, rfl, rfl⟩⟩

theorem DttEntry.continues_commit (e : DttEntry) : e.Continues e.commit := by
  unfold DttEntry.commit
  split
  · exact e.continues_refl
  · exact DttEntry.continues_of_not rfl
  all_goals exact fun h => ⟨h, ⟨rfl, rfl, rfl, rfl, rfl⟩⟩

/-- A change of an ISSUED or waiting entry that keeps its request. -/
theorem DttEntry.continues_of_waits {e f : DttEntry} (h : e.state = .issued ∨ e.state = .queued ∨ e.state = .partly)
    (same : e.Repeats f) : e.Continues f := by
  refine fun _ => ⟨?_, same⟩
  rcases h with h | h | h <;> simp [DttEntry.matchable, h]

/-- Every matchable entry continues, or one was created for a request that no entry matched. -/
abbrev EntriesContinue (s t : State) : Prop :=
  (∀ i : EntryIndex, s.dtt[i].Continues t.dtt[i]) ∨
    ∃ (i : EntryIndex) (o : Owner) (kind : EntryKind) (a : Word) (w : Nat) (ws : List WriteWord) (k : WindowIndex),
      s.present o = true ∧ matchEntry o kind a w ws s = none ∧
      t.dtt = s.dtt.set i (newEntry o kind a w ws k s)

section
variable {s t : State}

theorem entriesContinue_set {i : EntryIndex} {e : DttEntry} (h : s.dtt[i].Continues e) (j : EntryIndex) :
    s.dtt[j].Continues (s.dtt.set i e)[j] :=
  forall_set (p := fun j e => s.dtt[j].Continues e) (fun j => s.dtt[j].continues_refl) h j

theorem Work.entries (w : Work s t) : EntriesContinue s t := by
  cases w with
  | release v released =>
    refine .inl fun i => ?_
    rcases released i with kept | gone
    · exact (congrArg s.dtt[i].Continues kept).mpr s.dtt[i].continues_refl
    · exact DttEntry.continues_of_not ((congrArg DttEntry.matchable gone).trans s.dtt[i].matchable_release)
  | create i o kind a w ws k _ unmatched present _ => exact .inr ⟨i, o, kind, a, w, ws, k, present, unmatched, rfl⟩
  | commit =>
    exact .inl (forall_mapAll (p := fun i e => s.dtt[i].Continues e) fun i => s.dtt[i].continues_commit)
  | discard g c =>
    rw [discardQueue_fields]
    exact .inl (forall_mapAll (p := fun i e => s.dtt[i].Continues e) fun i => s.dtt[i].continues_meetAll g _)
  | _ => exact .inl fun i => s.dtt[i].continues_refl

theorem Part.entries {g : Segment} (part : Part g s t) : EntriesContinue s t := by
  cases part with
  | work w => exact w.entries
  | retire e rest _ =>
    exact .inl (forall_mapAll (p := fun i e => s.dtt[i].Continues e) fun i => s.dtt[i].continues_meet g _)
  | ready i o data progress backoff issued =>
    exact .inl (entriesContinue_set (DttEntry.continues_of_waits (.inl issued) ⟨rfl, rfl, rfl, rfl, rfl⟩))
  | partly i data progress backoff issued =>
    exact .inl (entriesContinue_set (DttEntry.continues_of_waits (.inl issued) ⟨rfl, rfl, rfl, rfl, rfl⟩))
  | forget i _ => exact .inl (entriesContinue_set (DttEntry.continues_of_not rfl))
  | _ => exact .inl fun i => s.dtt[i].continues_refl

theorem DttEntry.waits_of_grantable {e : DttEntry} {g : Segment} (h : e.grantable g = true) :
    e.state = .queued ∨ e.state = .partly := by
  simp only [DttEntry.grantable, Bool.and_eq_true, Bool.or_eq_true, decide_eq_true_eq] at h
  exact h.2.imp_left And.left

theorem Event.entries (event : Event s t) (i : EntryIndex) : s.dtt[i].Continues t.dtt[i] := by
  cases event with
  | powerOn =>
    have free : ∀ i : EntryIndex, State.reset.dtt[i].matchable = false := by decide
    exact DttEntry.continues_of_not (free i)
  | leave n _ =>
    rw [leaveLane_fields]
    exact s.dtt[i].continues_refl
  | grantF g j _ _ grantable =>
    exact entriesContinue_set (e := { s.dtt[j] with state := .issued })
      (DttEntry.continues_of_waits (.inr (DttEntry.waits_of_grantable grantable)) ⟨rfl, rfl, rfl, rfl, rfl⟩) i
  | segmentDown g =>
    refine forall_mapAll (p := fun i e => s.dtt[i].Continues e) (fun j => ?_) i
    split
    · rename_i waits
      exact DttEntry.continues_of_waits (.inr waits.2) ⟨rfl, rfl, rfl, rfl, rfl⟩
    · exact s.dtt[j].continues_refl
  | _ => exact s.dtt[i].continues_refl

/-! ### No duplicates (R47) -/

theorem DttEntry.sameRequest_self (e : DttEntry) :
    e.sameRequest e.owner e.kind e.address e.words e.writeWords = true :=
  DttEntry.sameRequest_iff.2 ⟨rfl, rfl, rfl, rfl, .inr rfl⟩

theorem DttEntry.Repeats.sameRequest {e f d : DttEntry} (h : e.Repeats f) :
    d.sameRequest f.owner f.kind f.address f.words f.writeWords =
      d.sameRequest e.owner e.kind e.address e.words e.writeWords := by
  rw [h.owner, h.kind, h.address, h.words, h.writeWords]

theorem DttEntry.Repeats.sameRequest_of {e f : DttEntry} (h : e.Repeats f) (o : Owner) (kind : EntryKind) (a : Word)
    (w : Nat) (ws : List WriteWord) : f.sameRequest o kind a w ws = e.sameRequest o kind a w ws := by
  unfold DttEntry.sameRequest
  rw [h.owner, h.kind, h.address, h.words, h.writeWords]

theorem noDuplicates_of_continue (h : NoDuplicateEntries s) (same : ∀ i : EntryIndex, s.dtt[i].Continues t.dtt[i]) :
    NoDuplicateEntries t := by
  intro i j other mi mj
  obtain ⟨mi, ri⟩ := same i mi
  obtain ⟨mj, rj⟩ := same j mj
  rw [ri.sameRequest, rj.sameRequest_of]
  exact h i j other mi mj

/-- No entry that a repeat may match is the request of an entry created for want of a match. -/
theorem not_sameRequest_of_unmatched {o : Owner} {kind : EntryKind} {a : Word} {w : Nat} {ws : List WriteWord}
    (unmatched : matchEntry o kind a w ws s = none) {j : EntryIndex} (mj : s.dtt[j].matchable = true) :
    s.dtt[j].sameRequest o kind a w ws = false := by
  have none := findFirst_eq_none.1 unmatched j
  rwa [mj, Bool.true_and] at none

theorem noDuplicates_of_created (h : NoDuplicateEntries s) {i : EntryIndex} {e : DttEntry}
    (alone : ∀ j : EntryIndex, s.dtt[j].matchable = true →
      s.dtt[j].sameRequest e.owner e.kind e.address e.words e.writeWords = false)
    (created : t.dtt = s.dtt.set i e) : NoDuplicateEntries t := by
  intro j l other
  rw [created, table_set, table_set]
  split
  · rename_i first
    rw [if_neg fun second => other (first.symm.trans second)]
    exact fun _ => alone l
  · split
    · intro mj _
      refine Bool.eq_false_iff.2 fun same => ?_
      have repeated := DttEntry.sameRequest_trans same s.dtt[j].sameRequest_self
      rw [alone j mj] at repeated
      contradiction
    · exact h j l other

theorem EntriesContinue.noDuplicates (c : EntriesContinue s t) (h : NoDuplicateEntries s) : NoDuplicateEntries t := by
  rcases c with same | ⟨i, o, kind, a, w, ws, k, -, unmatched, created⟩
  · exact noDuplicates_of_continue h same
  · exact noDuplicates_of_created h (e := newEntry o kind a w ws k s)
      (fun j => not_sameRequest_of_unmatched unmatched) created

end

/-- Settles O8: an entry is created only for want of a match, and no other change makes an entry matchable or changes
its request. -/
theorem noDuplicateEntriesKept : Obligations.NoDuplicateEntriesKept :=
  keptByStep_of_parts (fun _ _ h => h) (fun _ h => h) (fun _ _ _ part => part.entries.noDuplicates)
    fun _ _ event h => noDuplicates_of_continue h event.entries

/-! ### What a change makes of a slot that serves -/

/-- A slot y that serves belongs to the owner of the slot x that served. -/
abbrev StreamSlot.Continues (x y : StreamSlot) : Prop := y.live = true → x.live = true ∧ y.owner = x.owner

theorem StreamSlot.continues_refl (x : StreamSlot) : x.Continues x := fun h => ⟨h, rfl⟩

theorem StreamSlot.continues_meet (x : StreamSlot) (g : Segment) (b : Seq) : x.Continues (x.meet g b) := by
  unfold StreamSlot.meet
  split <;> exact fun h => ⟨h, rfl⟩

theorem StreamSlot.continues_meetAll (x : StreamSlot) (g : Segment) (es : List QueueEntry) :
    x.Continues (x.meetAll g es) := by
  unfold StreamSlot.meetAll
  split <;> exact fun h => ⟨h, rfl⟩

theorem KeptOrDropped.continues {u v : Vector StreamSlot 4} (h : KeptOrDropped u v) (i : SlotIndex) :
    u[i].Continues v[i] := fun live => by
  have kept := h.eq_of_live live
  exact ⟨kept ▸ live, congrArg StreamSlot.owner kept⟩

/-- Every slot that serves continues, or one was taken for an owner who has no other on its lane. -/
abbrev SlotsContinue (s t : State) : Prop :=
  (∀ i : SlotIndex, s.slots[i].Continues t.slots[i]) ∨
    ∃ (i : SlotIndex) (x : StreamSlot) (v : Vector StreamSlot 4), s.present x.owner = true ∧ t.slots = v.set i x ∧
      (∀ j : SlotIndex, s.slots[j].Continues v[j]) ∧
      (OwnersOk s → ∀ j : SlotIndex, j ≠ i → v[j].live = true → v[j].owner.lane ≠ x.owner.lane)

section
variable {s t : State}

theorem slotsContinue_set {i : SlotIndex} {x : StreamSlot} (h : s.slots[i].Continues x) (j : SlotIndex) :
    s.slots[j].Continues (s.slots.set i x)[j] :=
  forall_set (p := fun j x => s.slots[j].Continues x) (fun j => s.slots[j].continues_refl) h j

theorem Work.slots (w : Work s t) : SlotsContinue s t := by
  cases w with
  | drop v dropped => exact .inl dropped.continues
  | serve i w => exact .inl (slotsContinue_set fun live => ⟨live, rfl⟩)
  | refill i wants =>
    refine .inl (slotsContinue_set fun _ => ⟨StreamSlot.live_iff.2 (.inl ?_), rfl⟩)
    simp only [StreamSlot.wantsRefill, Bool.and_eq_true, decide_eq_true_eq] at wants
    exact wants.1.1
  | fill j o i v _ _ _ _ present dropped _ alone => exact .inr ⟨i, _, v, present, rfl, dropped.continues, alone⟩
  | discard g c =>
    rw [discardQueue_fields]
    exact .inl (forall_mapAll (p := fun i x => s.slots[i].Continues x) fun i => s.slots[i].continues_meetAll g _)
  | _ => exact .inl fun i => s.slots[i].continues_refl

theorem Part.slots {g : Segment} (part : Part g s t) : SlotsContinue s t := by
  cases part with
  | work w => exact w.slots
  | retire e rest _ =>
    exact .inl (forall_mapAll (p := fun i x => s.slots[i].Continues x) fun i => s.slots[i].continues_meet g _)
  | refilled i held filling => exact .inl (slotsContinue_set fun _ => ⟨StreamSlot.live_iff.2 (.inr filling), rfl⟩)
  | refillLater i p held progress backoff _ _ => exact .inl (slotsContinue_set fun live => ⟨live, rfl⟩)
  | clear i _ => exact .inl (slotsContinue_set fun live => (Bool.false_ne_true live).elim)
  | _ => exact .inl fun i => s.slots[i].continues_refl

theorem Event.slots (event : Event s t) (i : SlotIndex) : s.slots[i].Continues t.slots[i] := by
  cases event with
  | powerOn =>
    have empty : ∀ i : SlotIndex, State.reset.slots[i].live = false := by decide
    exact fun live => (Bool.false_ne_true ((empty i).symm.trans live)).elim
  | leave n _ =>
    rw [leaveLane_fields]
    exact s.slots[i].continues_refl
  | grantR g j r _ _ _ _ _ =>
    exact slotsContinue_set (x := { s.slots[j] with refill := some { r with inCycle := true } })
      (fun live => ⟨live, rfl⟩) i
  | _ => exact s.slots[i].continues_refl

/-! ### Fence records (R93) -/

/-- A fence record was there, or its lane is UP. -/
abbrev FencesContinue (s t : State) : Prop :=
  ∀ n : LaneId, t.fences[n].isSome = true → s.fences[n].isSome = true ∨ s.lanes[n].state = .up

theorem Part.fences {g : Segment} (part : Part g s t) : FencesContinue s t := by
  have mapped (f : BarrierPair → BarrierPair) (n : LaneId)
      (h : (mapAll (Option.map f) s.fences)[n].isSome = true) : s.fences[n].isSome = true := by
    rwa [mapAll_table, Option.isSome_map] at h
  have set (m : LaneId) {r : Option BarrierPair} (up : r.isSome = true → s.lanes[m].state = .up) (n : LaneId)
      (h : (s.fences.set m r)[n].isSome = true) : s.fences[n].isSome = true ∨ s.lanes[n].state = .up :=
    forall_set (p := fun n (r : Option BarrierPair) => r.isSome = true → s.fences[n].isSome = true ∨ s.lanes[n].state = .up)
      (fun _ => .inl) (fun some => .inr (up some)) n h
  cases part with
  | work w =>
    cases w with
    | fence m up => exact set m fun _ => up
    | clearFence m => exact set m fun some => (Bool.false_ne_true some).elim
    | freeRecords =>
      have none : ∀ n : LaneId, (freeRecords s).fences[n].isSome = false := fun n => by simp [freeRecords]
      exact fun n some => (Bool.false_ne_true ((none n).symm.trans some)).elim
    | discard k c =>
      rw [discardQueue_fields]
      exact fun n some => .inl (mapped _ n some)
    | _ => exact fun n => .inl
  | retire e rest _ => exact fun n some => .inl (mapped _ n some)
  | _ => exact fun n => .inl

/-! ### Owners (R41, R93, R109, R192) -/

/-- The owners are kept when no card goes. -/
theorem ownersOk_of_continue (entries : EntriesContinue s t) (slots : SlotsContinue s t) (fences : FencesContinue s t)
    (present : ∀ o : Owner, s.present o = true → t.present o = true)
    (up : ∀ n : LaneId, s.lanes[n].state = .up → t.lanes[n].state = .up) (h : OwnersOk s) : OwnersOk t := by
  obtain ⟨owners, servers, alone, records⟩ := id h
  refine ⟨?_, ?_, ?_, fun n some => up n ((fences n some).elim (records n) id)⟩
  · rcases entries with same | ⟨i, o, kind, a, w, ws, k, card, -, created⟩
    · intro i matches_
      obtain ⟨before, repeats⟩ := same i matches_
      rw [repeats.owner]
      exact present _ (owners i before)
    · rw [created]
      exact forall_set (p := fun _ (e : DttEntry) => e.matchable = true → t.present e.owner = true)
        (fun i matches_ => present _ (owners i matches_)) fun _ => present o card
  all_goals rcases slots with same | ⟨i, x, v, card, filled, same, single⟩
  · intro i live
    obtain ⟨before, owner⟩ := same i live
    rw [owner]
    exact present _ (servers i before)
  · rw [filled]
    refine forall_set (p := fun _ (x : StreamSlot) => x.live = true → t.present x.owner = true) (fun i live => ?_)
      fun _ => present _ card
    obtain ⟨before, owner⟩ := same i live
    rw [owner]
    exact present _ (servers i before)
  · intro i j other li lj
    obtain ⟨bi, oi⟩ := same i li
    obtain ⟨bj, oj⟩ := same j lj
    rw [oi, oj]
    exact alone i j other bi bj
  · intro j l other
    rw [filled, table_set, table_set]
    split
    · rename_i first
      rw [if_neg fun second => other (first.symm.trans second)]
      exact fun _ live => (single h l (fun second => other (first.symm.trans second.symm)) live).symm
    · rename_i first
      split
      · exact fun live _ => single h j (Ne.symm first) live
      · intro lj ll
        obtain ⟨bj, oj⟩ := same j lj
        obtain ⟨bl, ol⟩ := same l ll
        rw [oj, ol]
        exact alone j l other bj bl

/-- The owners are kept when a card goes to which nothing belongs. -/
theorem ownersOk_of_bare {m : LaneId} (bare : s.bare m) (others : ∀ n : LaneId, n ≠ m → t.lanes[n] = s.lanes[n])
    (dtt : t.dtt = s.dtt) (slots : t.slots = s.slots) (fences : t.fences = s.fences) (h : OwnersOk s) : OwnersOk t := by
  obtain ⟨owners, servers, alone, records⟩ := h
  have present {o : Owner} (other : o.lane ≠ m) (card : s.present o = true) : t.present o = true := by
    rw [State.present, others o.lane other]
    exact card
  refine ⟨fun i matches_ => ?_, fun i live => ?_, ?_, fun n some => ?_⟩
  · rw [dtt] at matches_ ⊢
    exact present (fun own => Bool.false_ne_true ((bare.entries i own).symm.trans matches_)) (owners i matches_)
  · rw [slots] at live ⊢
    exact present (fun own => Bool.false_ne_true ((bare.slots i own).symm.trans live)) (servers i live)
  · rw [slots]
    exact alone
  · rw [fences] at some
    rw [others n]
    · exact records n some
    · rintro rfl
      rw [bare.fence] at some
      contradiction

theorem Part.ownersOk {g : Segment} (part : Part g s t) (h : OwnersOk s) : OwnersOk t := by
  by_cases epoch : ∃ m, s.bare m ∧ t = advanceEpoch m s
  · obtain ⟨m, bare, rfl⟩ := epoch
    exact ownersOk_of_bare bare (fun n other => table_set_ne _ _ (Ne.symm other)) rfl rfl rfl h
  · have lanes : t.lanes = s.lanes := by
      cases part with
      | work w =>
        cases w with
        | epoch m bare => exact absurd ⟨m, bare, rfl⟩ epoch
        | discard k c => rw [discardQueue_fields]
        | _ => rfl
      | _ => rfl
    refine ownersOk_of_continue part.entries part.slots part.fences (fun o card => ?_) (fun n up => ?_) h
    · rwa [State.present, lanes]
    · rwa [lanes]

/-- A change of one lane that keeps its state and its epoch, or of a DOWN lane, takes no card away. -/
theorem present_modifyLane {n : LaneId} {f : Lane → Lane}
    (same : s.lanes[n].state = .up → (f s.lanes[n]).state = .up ∧ (f s.lanes[n]).epoch = s.lanes[n].epoch) :
    (∀ o : Owner, s.present o = true → (s.modifyLane n f).present o = true) ∧
      ∀ m : LaneId, s.lanes[m].state = .up → (s.modifyLane n f).lanes[m].state = .up := by
  have lane (m : LaneId) (up : s.lanes[m].state = .up) :
      (s.modifyLane n f).lanes[m].state = .up ∧ (s.modifyLane n f).lanes[m].epoch = s.lanes[m].epoch :=
    forall_set (p := fun m (l : Lane) => s.lanes[m].state = .up → l.state = .up ∧ l.epoch = s.lanes[m].epoch)
      (fun _ up => ⟨up, rfl⟩) same m up
  refine ⟨fun o card => ?_, fun m up => (lane m up).1⟩
  simp only [State.present, Bool.and_eq_true, decide_eq_true_eq] at card ⊢
  obtain ⟨up, epoch⟩ := card
  obtain ⟨up', epoch'⟩ := lane o.lane up
  exact ⟨up', epoch'.trans epoch⟩

theorem Event.ownersOk (event : Event s t) (h : OwnersOk s) : OwnersOk t := by
  have kept (fences : t.fences = s.fences)
      (cards : (∀ o : Owner, s.present o = true → t.present o = true) ∧
        ∀ n : LaneId, s.lanes[n].state = .up → t.lanes[n].state = .up) : OwnersOk t :=
    ownersOk_of_continue (.inl event.entries) (.inl event.slots) (fun n some => .inl (fences ▸ some)) cards.1 cards.2 h
  cases event with
  | powerOn => exact (by decide : OwnersOk State.reset)
  | leave n bare =>
    rw [leaveLane_fields]
    exact ownersOk_of_bare bare (fun m other => table_set_ne _ _ (Ne.symm other)) rfl rfl rfl h
  | arrive n down =>
    refine kept rfl (present_modifyLane (f := fun l => { l with state := .up, epoch := l.epoch + 1, rx := [], tx := [] })
      fun up => ?_)
    rw [down] at up
    contradiction
  | deliver n p _ _ => exact kept rfl (present_modifyLane fun up => ⟨up, rfl⟩)
  | send n =>
    refine kept rfl (present_modifyLane fun up => ?_)
    unfold Lane.sendFront
    split <;> exact ⟨up, rfl⟩
  | take n => exact kept rfl (present_modifyLane (f := fun l => { l with rx := l.rx.tail }) fun up => ⟨up, rfl⟩)
  | respond n r _ _ => exact kept rfl (present_modifyLane fun up => ⟨up, rfl⟩)
  | alert m _ =>
    refine kept rfl (present_modifyLane (f := fun l => l.placeAlert s.log.records.length s.log.lost) fun up => ?_)
    unfold Lane.placeAlert
    split <;> exact ⟨up, rfl⟩
  | _ => exact kept rfl ⟨fun _ => id, fun _ => id⟩

end

/-- Settles O13: an item is made for a present card alone, and a card goes only when nothing belongs to it. -/
theorem itemsBelongToPresentCardKept : Obligations.ItemsBelongToPresentCardKept :=
  keptByStep_of_parts (fun _ _ h => h) (fun _ h => h) (fun _ _ _ part => part.ownersOk) fun _ _ event => event.ownersOk

end Sys2Proof.Machine
end

section
/-! What every step keeps, fourth part: no timer is passed over (R56, R78, R120, R128, R129, R174, R179). -/

namespace Sys2Proof.Machine

/-! ### Timers within their bounds -/

/-- A timer set now by a parameter lies as far ahead as the parameter says (R179). -/
theorem until_after (now : Time) {k : Nat} (h : k ≤ 65535) : (now + BitVec.ofNat 32 k - now).toNat ≤ k := by bv_omega

/-- Every timer lies within the greatest value of the parameter that sets it. -/
def bounded : TimerRelations where
  expiry now t := (t - now).toNat ≤ 65535
  close now t := (t - now).toNat ≤ 255
  idle now t := (t - now).toNat ≤ 4095
  expiry_set now _ _ hi := (until_after now hi).trans hi
  close_set now _ _ hi := (until_after now (by omega)).trans hi
  idle_set now _ _ hi := (until_after now (by omega)).trans hi

/-- A timer that is not due now is no further away after one more µs. -/
theorem until_advance {now t : Time} {k : Nat} (h : (t - now).toNat ≤ k) (undue : t ≠ now) :
    (t - (now + 1)).toNat ≤ k := by bv_omega

/-- A cycle's limits at a timebase value, as the spec states them. -/
theorem Cycle.limitsOk_iff {c : Cycle} {s : State} : c.limitsOk s = true ↔ c.holdLimit ≤ 4095 ∧
    (∀ t, c.phase = .claim t → (s.timebase - t).toNat ≤ 1) ∧
    ∀ t, c.phase = .data t → (s.timebase - t).toNat ≤ c.holdLimit + 1 := by
  unfold Cycle.limitsOk
  cases phase : c.phase with
  | claim t =>
    simp only [Bool.and_eq_true, decide_eq_true_eq, CyclePhase.claim.injEq, forall_eq', reduceCtorEq,
      IsEmpty.forall_iff, implies_true, and_true]
    rfl
  | data t =>
    simp only [Bool.and_eq_true, decide_eq_true_eq, CyclePhase.data.injEq, forall_eq', reduceCtorEq,
      IsEmpty.forall_iff, implies_true, true_and]
    rfl

/-- Every cycle is within its limits. -/
abbrev CyclesTimed (s : State) : Prop := ∀ g : Segment, ∀ c ∈ (s.engines.get g).cycle, c.limitsOk s = true

theorem timersOk_iff {s : State} : TimersOk s ↔ TimersSet bounded s ∧ CyclesTimed s := by
  have closes (g : Segment) :
      (s.queues.get g).closeTimeOk s = true ↔ (s.queues.get g).Timed bounded.close s.timebase := by
    simp only [PostedQueue.closeTimeOk, Option.all_eq_true, decide_eq_true_eq]
    rfl
  constructor
  · rintro ⟨entries, a, b, slots, ca, cb, params⟩
    refine ⟨⟨params, entries, fun g => ?_, slots⟩, fun g => ?_⟩
    · cases g
      exacts [(closes .a).1 a, (closes .b).1 b]
    · cases g
      exacts [ca, cb]
  · rintro ⟨⟨params, entries, tails, slots⟩, cycles⟩
    exact ⟨entries, (closes .a).2 (tails .a), (closes .b).2 (tails .b), slots, cycles .a, cycles .b, params⟩

/-! ### Cycles -/

section
variable {s t : State}

theorem CyclesTimed.setEngine (h : CyclesTimed s) (g : Segment) {e : Engine}
    (he : ∀ c ∈ e.cycle, c.limitsOk s = true) : CyclesTimed (s.setEngine g e) :=
  PerSegment.forall_set (p := fun _ (e : Engine) => ∀ c ∈ e.cycle, c.limitsOk s = true) h he

theorem Part.cyclesTimed {g : Segment} (part : Part g s t) (h : CyclesTimed s) : CyclesTimed t := by
  cases part with
  | work w =>
    cases w with
    | mark k x count _ _ => exact CyclesTimed.setEngine h k (h k)
    | discard k c =>
      rw [discardQueue_fields]
      exact h
    | _ => exact h
  | idle => exact CyclesTimed.setEngine h g fun c busy => by cases busy
  | _ => exact h

theorem holdLimit_small (h : s.params.inRange) (g : Segment) : s.params.holdLimit g ≤ 4095 := by
  obtain ⟨-, -, -, -, -, a, b, -⟩ := h
  cases g
  exacts [a.2, b.2]

/-- A cycle that waits for its claim from now on, or has reached a boundary now. -/
theorem limitsOk_of_now {c : Cycle} (hold : c.holdLimit ≤ 4095)
    (phase : c.phase = .claim s.timebase ∨ c.phase = .data s.timebase) : c.limitsOk s = true := by
  have now : (s.timebase - s.timebase).toNat = 0 := by simp
  refine Cycle.limitsOk_iff.2 ⟨hold, fun t claims => ?_, fun t passes => ?_⟩
  · rcases phase with h | h
    · obtain rfl := CyclePhase.claim.inj (h.symm.trans claims)
      omega
    · rw [h] at claims
      contradiction
  · rcases phase with h | h
    · rw [h] at passes
      contradiction
    · obtain rfl := CyclePhase.data.inj (h.symm.trans passes)
      omega

theorem passWord_holdLimit (c : Cycle) (w : Word) (parity : BitVec 4) (now : Time) :
    (c.passWord w parity now).holdLimit = c.holdLimit ∧ (c.passWord w parity now).phase = .data now := by
  unfold Cycle.passWord
  split <;> exact ⟨rfl, rfl⟩

theorem Event.cyclesTimed (event : Event s t) (params : s.params.inRange) (h : CyclesTimed s) : CyclesTimed t := by
  have started (g : Segment) {e : Engine} {c : Cycle} (cycle : e.cycle = some c) (hold : c.holdLimit ≤ 4095)
      (phase : c.phase = .claim s.timebase ∨ c.phase = .data s.timebase) : CyclesTimed (s.setEngine g e) :=
    CyclesTimed.setEngine h g fun d busy => by
      obtain rfl := Option.some.inj (cycle.symm.trans busy)
      exact limitsOk_of_now hold phase
  have held {g : Segment} {c : Cycle} (cycle : (s.engine g).cycle = some c) : c.holdLimit ≤ 4095 :=
    (Cycle.limitsOk_iff.1 (h g c cycle)).1
  cases event with
  | powerOn => exact (timersOk_iff.1 (by decide : TimersOk State.reset)).2
  | leave n _ =>
    rw [leaveLane_fields]
    exact h
  | grantW g e _ _ _ => exact started g rfl (holdLimit_small params g) (.inl rfl)
  | grantF g i _ _ _ =>
    exact started g (e := { s.engine g with lastWF := .f, cycle := some (s.dtt[i].cycle i s g) }) rfl
      (holdLimit_small params g) (.inl rfl)
  | grantR g i r _ _ _ _ _ =>
    exact started g (e := { s.engine g with cycle := some (r.cycle i s g) }) rfl (holdLimit_small params g) (.inl rfl)
  | claim g c cycle => exact started g rfl (c := { c with phase := .data s.timebase }) (held (c := c) cycle) (.inr rfl)
  | word g c w parity cycle _ =>
    obtain ⟨hold, phase⟩ := passWord_holdLimit c w parity s.timebase
    exact started g rfl (hold.trans_le (held cycle)) (.inr phase)
  | faulted g _ _ _ _ => exact CyclesTimed.setEngine h g (h g)
  | _ => exact h

theorem Move.timersOk (move : Move s t) (h : TimersOk s) : TimersOk t := by
  obtain ⟨timers, cycles⟩ := timersOk_iff.1 h
  refine timersOk_iff.2 ⟨move.timersSet timers, ?_⟩
  cases move with
  | work w => exact (Part.work (g := .a) w).cyclesTimed cycles
  | event e => exact e.cyclesTimed timers.inRange cycles
  | finish g c e cycle _ => exact kept_by_run (p := CyclesTimed) (fun _ _ => Part.cyclesTimed) (finished_parts cycle e) cycles

/-! ### The advance of the timebase (R178) -/

/-- A cycle whose limits have not run out is within them one µs later. -/
theorem limitsOk_advance {c : Cycle} (h : c.limitsOk s = true) (claim : c.claimOverdue s = false)
    (hold : c.holdOverdue s = false) : c.limitsOk (advanceTimebase s) = true := by
  obtain ⟨small, -, -⟩ := Cycle.limitsOk_iff.1 h
  refine Cycle.limitsOk_iff.2 ⟨small, fun t claims => ?_, fun t passes => ?_⟩
  · rw [Cycle.claimOverdue_of_claim claims, decide_eq_false_iff_not] at claim
    dsimp only [advanceTimebase]
    bv_omega
  · rw [Cycle.holdOverdue_of_data passes, decide_eq_false_iff_not] at hold
    dsimp only [advanceTimebase]
    bv_omega

theorem timersOk_advance (h : TimersOk s) (undue : NothingDue s) : TimersOk (advanceTimebase s) := by
  obtain ⟨⟨params, entries, tails, slots⟩, cycles⟩ := timersOk_iff.1 h
  obtain ⟨noEntry, noTailA, noTailB, noSlot, noLimitA, noLimitB⟩ := undue
  refine timersOk_iff.2 ⟨⟨params, fun i ready => until_advance (entries i ready) (noEntry i ready),
    fun g e tail t closes => until_advance (tails g e tail t closes) ?_,
    fun i live => until_advance (slots i live) (noSlot i live)⟩, fun g c busy => ?_⟩
  · rintro rfl
    cases g
    exacts [noTailA e tail closes, noTailB e tail closes]
  · have within := cycles g c busy
    cases g with
    | a => exact limitsOk_advance within (noLimitA c busy).1 (noLimitA c busy).2
    | b => exact limitsOk_advance within (noLimitB c busy).1 (noLimitB c busy).2

end

/-- Settles O12: a timer is set within its bound, and TIMEBASE_ADVANCE adds only when nothing is due. -/
theorem noTimerPassedOverKept : Obligations.NoTimerPassedOverKept :=
  keptByStep_of_moves (fun _ _ h => h) (fun _ _ => Move.timersOk)
    fun _ _ before h undue => timersOk_advance h (undue (timersOk_iff.1 before).1.inRange)

end Sys2Proof.Machine
end

section
/-! What every step keeps, fifth part: an unmet barrier names an entry that its queue still holds (R90, R91). -/

namespace Sys2Proof.Machine

/-! ### The holders of barriers (R90) -/

/-- An entry's barrier satisfies what is asked of a barrier on its segment's queue. -/
abbrev DttEntry.Holds (p : Segment → Barrier → Prop) (e : DttEntry) : Prop := p e.segment e.barrier

/-- The same of the barrier of a slot's pending refill. -/
abbrev StreamSlot.Holds (p : Segment → Barrier → Prop) (x : StreamSlot) : Prop := ∀ r ∈ x.refill, p x.segment r.barrier

/-- The same of the two barriers of a fence record or of the drain record, when there is one. -/
abbrev RecordHolds (p : Segment → Barrier → Prop) (o : Option BarrierPair) : Prop :=
  ∀ r ∈ o, ∀ g : Segment, p g (PerSegment.get r g)

/-- Every barrier satisfies what is asked of a barrier on its queue. -/
structure HoldersOk (p : Segment → Barrier → Prop) (s : State) : Prop where
  entries : ∀ i : EntryIndex, s.dtt[i].Holds p
  slots : ∀ i : SlotIndex, s.slots[i].Holds p
  fences : ∀ n : LaneId, RecordHolds p s.fences[n]
  drain : RecordHolds p s.drain

/-- What BarriersOk asks of a barrier on a queue of the state. -/
abbrev State.asks (s : State) (g : Segment) (x : Barrier) : Prop := x.okOn (s.queues.get g) = true

theorem barriersOk_iff {s : State} : BarriersOk s ↔ HoldersOk s.asks s := by
  have pair (r : BarrierPair) :
      r.a.okOn s.queues.a = true ∧ r.b.okOn s.queues.b = true ↔ ∀ g, s.asks g (PerSegment.get r g) := by
    refine ⟨fun h g => ?_, fun h => ⟨h .a, h .b⟩⟩
    cases g
    exacts [h.1, h.2]
  constructor
  · rintro ⟨entries, slots, fences, drain⟩
    exact ⟨entries, slots, fun n r present => (pair r).1 (fences n r present), fun r present => (pair r).1 (drain r present)⟩
  · rintro ⟨entries, slots, fences, drain⟩
    exact ⟨entries, slots, fun n r present => (pair r).2 (fences n r present), fun r present => (pair r).2 (drain r present)⟩

/-! ### Barriers that are taken, and queues that change -/

theorem Barrier.okOn_iff {x : Barrier} {q : PostedQueue} :
    x.okOn q = true ↔ x.met = true ∨ ∃ e ∈ q.entries, x.value = some e.seq := by
  simp [Barrier.okOn]

theorem Barrier.okOn_none (q : PostedQueue) : Barrier.none.okOn q = true := rfl

theorem Barrier.okOn_on {q : PostedQueue} {e : QueueEntry} (h : e ∈ q.entries) : (Barrier.on e.seq).okOn q = true :=
  Barrier.okOn_iff.2 (.inr ⟨e, h, rfl⟩)

theorem PostedQueue.okOn_tailBarrier (q : PostedQueue) : q.tailBarrier.okOn q = true := by
  unfold PostedQueue.tailBarrier
  split
  · exact Barrier.okOn_on (List.mem_of_getLast? ‹_›)
  · exact Barrier.okOn_none q

theorem PostedQueue.okOn_ownerBarrier (q : PostedQueue) (o : Owner) : (q.ownerBarrier o).okOn q = true := by
  unfold PostedQueue.ownerBarrier
  split
  · exact Barrier.okOn_on (List.mem_reverse.1 (List.mem_of_find?_eq_some ‹_›))
  · exact Barrier.okOn_none q

/-- A queue that still holds every number it held. -/
theorem Barrier.okOn_of_seqs {x : Barrier} {q r : PostedQueue} (h : x.okOn q = true)
    (seqs : q.entries.map QueueEntry.seq ⊆ r.entries.map QueueEntry.seq) : x.okOn r = true := by
  rw [Barrier.okOn_iff] at h ⊢
  refine h.imp_right fun ⟨e, held, named⟩ => ?_
  obtain ⟨d, held', same⟩ := List.mem_map.1 (seqs (List.mem_map_of_mem held))
  exact ⟨d, held', by rw [named, same]⟩

/-- A head leaves, and the barriers that name it are met (R83, R91). -/
theorem Barrier.okOn_retire {x : Barrier} {q : PostedQueue} {e : QueueEntry} {rest : List QueueEntry} {mark : Seq}
    (head : q.entries = e :: rest) (h : x.okOn q = true) :
    (x.meet e.seq).okOn { q with entries := rest, retired := mark } = true := by
  rw [Barrier.okOn_iff, head] at h
  rw [Barrier.okOn_iff, Barrier.meet_met, Barrier.meet_value]
  rcases h with met | ⟨d, held, named⟩
  · exact .inl (.inl met)
  · rcases List.mem_cons.1 held with rfl | later
    · exact .inl (.inr named)
    · exact .inr ⟨d, later, named⟩

/-- Every entry leaves, and the barriers that name one of them are met (R85, R86, R91). -/
theorem Barrier.okOn_discard {x : Barrier} {q r : PostedQueue} (h : x.okOn q = true) :
    (x.meetAll q.entries).okOn r = true := by
  obtain ⟨named, other⟩ := Barrier.afterDiscard_meetAll q x
  rw [Barrier.okOn_iff] at h
  by_cases held : ∃ e ∈ q.entries, x.value = some e.seq
  · rw [named held]
    rfl
  · rw [other fun e he same => held ⟨e, he, same⟩]
    exact Barrier.okOn_iff.2 (.inl (h.resolve_right held))

/-! ### Holders that change -/

section
variable {p q : Segment → Barrier → Prop} {s t : State} {g : Segment}

theorem HoldersOk.mono (h : HoldersOk p s) (imp : ∀ g x, p g x → q g x) : HoldersOk q s :=
  ⟨fun i => imp _ _ (h.entries i), fun i r pending => imp _ _ (h.slots i r pending),
    fun n r present g => imp _ _ (h.fences n r present g), fun r present g => imp _ _ (h.drain r present g)⟩

/-- The barriers on one queue change as by a function, and the others stay. -/
theorem RecordHolds.map {o : Option BarrierPair} (h : RecordHolds p o) (f : Barrier → Barrier)
    (own : ∀ x, p g x → q g (f x)) (others : ∀ k x, k ≠ g → p k x → q k x) :
    RecordHolds q (o.map fun r => PerSegment.set r g (f (PerSegment.get r g))) := by
  intro r present
  obtain ⟨r, before, rfl⟩ := Option.map_eq_some_iff.1 present
  intro k
  by_cases same : k = g
  · rw [same, PerSegment.get_set_self]
    exact own _ (h r before g)
  · rw [PerSegment.get_set_ne _ _ same]
    exact others k _ same (h r before k)

theorem StreamSlot.Holds.map {x : StreamSlot} (h : x.Holds p) (f : PendingRefill → PendingRefill) {k : Segment}
    (imp : ∀ r, p x.segment r.barrier → q k (f r).barrier) :
    ∀ r ∈ x.refill.map f, q k r.barrier := by
  intro r pending
  obtain ⟨r, before, rfl⟩ := Option.map_eq_some_iff.1 pending
  exact imp r (h r before)

theorem holdersOk_meetBarriers {b : Seq} (h : HoldersOk p s) (own : ∀ x, p g x → q g (x.meet b))
    (others : ∀ k x, k ≠ g → p k x → q k x) : HoldersOk q (meetBarriers g b s) := by
  refine ⟨forall_mapAll (p := fun _ => DttEntry.Holds q) fun i => ?_,
    forall_mapAll (p := fun _ => StreamSlot.Holds q) fun i => ?_,
    forall_mapAll (p := fun _ => RecordHolds q) fun n => (h.fences n).map (Barrier.meet b) own others,
    h.drain.map (Barrier.meet b) own others⟩
  · unfold DttEntry.meet
    split
    · rename_i same
      exact same ▸ own _ (same ▸ h.entries i)
    · exact others _ _ ‹_› (h.entries i)
  · unfold StreamSlot.meet
    split
    · rename_i same
      exact (h.slots i).map (PendingRefill.meet b) fun r before => same ▸ own _ (same ▸ before)
    · exact fun r pending => others _ _ ‹_› (h.slots i r pending)

theorem holdersOk_discardQueue {c : Cause} (h : HoldersOk p s)
    (own : ∀ x, p g x → q g (x.meetAll (s.queues.get g).entries)) (others : ∀ k x, k ≠ g → p k x → q k x) :
    HoldersOk q (discardQueue g c s).1 := by
  rw [discardQueue_fields]
  refine ⟨forall_mapAll (p := fun _ => DttEntry.Holds q) fun i => ?_,
    forall_mapAll (p := fun _ => StreamSlot.Holds q) fun i => ?_,
    forall_mapAll (p := fun _ => RecordHolds q) fun n => (h.fences n).map (Barrier.meetAll _) own others,
    h.drain.map (Barrier.meetAll _) own others⟩
  · unfold DttEntry.meetAll
    split
    · rename_i same
      exact same ▸ own _ (same ▸ h.entries i)
    · exact others _ _ ‹_› (h.entries i)
  · unfold StreamSlot.meetAll
    split
    · rename_i same
      exact (h.slots i).map (PendingRefill.meetAll _) fun r before => same ▸ own _ (same ▸ before)
    · exact fun r pending => others _ _ ‹_› (h.slots i r pending)

end

/-! ### Every change -/

section
variable {p : Segment → Barrier → Prop} {s t : State}

theorem DttEntry.holds_cleared (none : ∀ g, p g Barrier.none) : DttEntry.cleared.Holds p := none .a

theorem DttEntry.Holds.release {e : DttEntry} (none : ∀ g, p g Barrier.none) (h : e.Holds p) : e.release.Holds p := by
  rcases e.release_cases with ⟨same, -⟩ | ⟨cleared, -⟩ | ⟨abandoned, -⟩
  · rwa [same]
  · rw [cleared]
    exact DttEntry.holds_cleared none
  · rw [abandoned]
    exact h

theorem DttEntry.Holds.commit {e : DttEntry} (none : ∀ g, p g Barrier.none) (h : e.Holds p) : e.commit.Holds p := by
  unfold DttEntry.commit
  split
  · exact h
  · exact DttEntry.holds_cleared none
  all_goals exact h

theorem StreamSlot.Holds.drop {x : StreamSlot} (h : x.Holds p) : x.drop.Holds p := by
  rcases x.drop_cases with ⟨same, -⟩ | ⟨cleared, -⟩ | ⟨retired, -⟩
  · rwa [same]
  · rw [cleared]
    exact fun r pending => by cases pending
  · rw [retired]
    exact h

theorem KeptOrDropped.holds {u v : Vector StreamSlot 4} (dropped : KeptOrDropped u v) (h : ∀ i : SlotIndex, u[i].Holds p)
    (i : SlotIndex) : v[i].Holds p := by
  rcases dropped i with same | gone
  · exact (congrArg (StreamSlot.Holds p) same).mpr (h i)
  · exact (congrArg (StreamSlot.Holds p) gone).mpr (h i).drop

theorem holdersOk_setQueue (h : HoldersOk s.asks s) (g : Segment) {q : PostedQueue}
    (seqs : (s.queues.get g).entries.map QueueEntry.seq ⊆ q.entries.map QueueEntry.seq) :
    HoldersOk (s.setQueue g q).asks (s.setQueue g q) := by
  refine HoldersOk.mono (p := s.asks) ⟨h.entries, h.slots, h.fences, h.drain⟩ fun k x asked => ?_
  by_cases same : k = g
  · rw [State.asks, same, State.setQueue, PerSegment.get_set_self]
    exact Barrier.okOn_of_seqs (same ▸ asked) seqs
  · rwa [State.asks, State.setQueue, PerSegment.get_set_ne _ _ same]

theorem asks_none (s : State) (g : Segment) : s.asks g Barrier.none := rfl

theorem newQueueEntries_seqs (q : PostedQueue) (e : QueueEntry) :
    q.entries.map QueueEntry.seq ⊆ (q.push e).entries.map QueueEntry.seq := by
  have same : q.closeTail.entries.map QueueEntry.seq = q.entries.map QueueEntry.seq :=
    mapLast_map QueueEntry.close _ (fun _ => rfl) _
  rw [PostedQueue.push, List.map_append, same]
  exact List.subset_append_left _ _

theorem freeRecords_fence (s : State) (n : LaneId) : (freeRecords s).fences[n] = none := by simp [freeRecords]

theorem Work.holdersOk (w : Work s t) (h : HoldersOk s.asks s) : HoldersOk t.asks t := by
  have none := asks_none s
  have setSlot (i : SlotIndex) {x : StreamSlot} (hx : x.Holds s.asks) :=
    forall_set (p := fun _ => StreamSlot.Holds s.asks) (i := i) h.slots hx
  have setFence (n : LaneId) {r : Option BarrierPair} (hr : RecordHolds s.asks r) :=
    forall_set (p := fun _ => RecordHolds s.asks) (i := n) h.fences hr
  cases w with
  | drop v dropped => exact { h with slots := dropped.holds h.slots }
  | release v released =>
    refine { h with entries := fun i => ?_ }
    rcases released i with same | gone
    · exact (congrArg (DttEntry.Holds s.asks) same).mpr (h.entries i)
    · exact (congrArg (DttEntry.Holds s.asks) gone).mpr ((h.entries i).release none)
  | closeTail g =>
    refine holdersOk_setQueue h g fun b held => (congrArg (b ∈ ·) ?_).mpr held
    exact mapLast_map QueueEntry.close _ (fun _ => rfl) _
  | serve i w => exact { h with slots := setSlot i (h.slots i) }
  | refill i wants =>
    refine { h with slots := setSlot i fun r pending => ?_ }
    obtain rfl := Option.some.inj pending
    exact PostedQueue.okOn_tailBarrier _
  | fill j o i v _ _ _ _ _ dropped _ _ =>
    exact { h with
      slots := forall_set (p := fun _ => StreamSlot.Holds s.asks) (dropped.holds h.slots) fun r pending => by cases pending }
  | create i o kind a w ws k _ _ _ _ =>
    refine { h with entries := ?_ }
    exact forall_set (p := fun _ => DttEntry.Holds s.asks) h.entries (PostedQueue.okOn_tailBarrier _)
  | merge o k a ws e tail _ _ =>
    refine holdersOk_setQueue h _ fun b held => (congrArg (b ∈ ·) ?_).mpr held
    rw [← mapLast_of_getLast? (f := fun e => e.append ws)
      (show (s.queues.get s.live[k].segment).entries.getLast? = some e from tail)]
    exact mapLast_map _ _ (fun e => append_seq e ws) _
  | push o k a ws _ _ => exact holdersOk_setQueue h _ (newQueueEntries_seqs _ _)
  | fence n up =>
    refine { h with fences := setFence n fun r made g => ?_ }
    obtain rfl := Option.some.inj made
    cases g <;> exact PostedQueue.okOn_ownerBarrier _ _
  | clearFence n => exact { h with fences := setFence n fun r present => by cases present }
  | endRole => exact { h with drain := fun r present => by cases present }
  | commit =>
    exact { h with
      entries := forall_mapAll (p := fun _ => DttEntry.Holds s.asks) fun i => (h.entries i).commit none }
  | drain r made =>
    refine { h with drain := fun d present g => ?_ }
    rcases made with rfl | rfl
    · cases present
    · obtain rfl := Option.some.inj present
      cases g <;> exact PostedQueue.okOn_tailBarrier _
  | freeRecords =>
    refine { h with fences := fun n r present => ?_, drain := fun r present => by cases present }
    rw [freeRecords_fence] at present
    cases present
  | discard g c =>
    have queues : (discardQueue g c s).1.queues =
        s.queues.set g { s.queues.get g with entries := [], retired := (s.queues.get g).counter } := by
      rw [discardQueue_fields]
    refine holdersOk_discardQueue h (fun x asked => Barrier.okOn_discard asked) fun k x other asked => ?_
    rwa [State.asks, queues, PerSegment.get_set_ne _ _ other]
  | _ => exact { h with }

theorem Part.holdersOk {g : Segment} (part : Part g s t) (h : HoldersOk s.asks s) : HoldersOk t.asks t := by
  have setEntry (i : EntryIndex) {e : DttEntry} (he : e.Holds s.asks) :=
    forall_set (p := fun _ => DttEntry.Holds s.asks) (i := i) h.entries he
  have setSlot (i : SlotIndex) {x : StreamSlot} (hx : x.Holds s.asks) :=
    forall_set (p := fun _ => StreamSlot.Holds s.asks) (i := i) h.slots hx
  cases part with
  | work w => exact w.holdersOk h
  | retire e rest head =>
    refine holdersOk_meetBarriers (p := s.asks) ⟨h.entries, h.slots, h.fences, h.drain⟩ (fun x asked => ?_)
      fun k x other asked => ?_
    · have retired := Barrier.okOn_retire (mark := e.seq) head asked
      rwa [State.asks, meetBarriers, State.setQueue, PerSegment.get_set_self]
    · rwa [State.asks, meetBarriers, State.setQueue, PerSegment.get_set_ne _ _ other]
  | stay e rest progress backoff head =>
    refine holdersOk_setQueue h g fun b held => (congrArg (b ∈ ·) ?_).mpr held
    rw [head]
    rfl
  | ready i o data progress backoff _ => exact { h with entries := setEntry i (h.entries i) }
  | partly i data progress backoff _ => exact { h with entries := setEntry i (h.entries i) }
  | forget i _ => exact { h with entries := setEntry i (DttEntry.holds_cleared (asks_none s)) }
  | refilled i held _ => exact { h with slots := setSlot i fun r pending => by cases pending }
  | refillLater i p held progress backoff _ pending =>
    refine { h with slots := setSlot i fun r later => ?_ }
    obtain rfl := Option.some.inj later
    exact h.slots i p pending
  | clear i _ => exact { h with slots := setSlot i fun r pending => by cases pending }
  | _ => exact { h with }

theorem Event.holdersOk (event : Event s t) (h : HoldersOk s.asks s) : HoldersOk t.asks t := by
  cases event with
  | powerOn => exact barriersOk_iff.1 (by decide : BarriersOk State.reset)
  | leave n _ =>
    rw [leaveLane_fields]
    refine { h with drain := fun r present => ?_ }
    dsimp only at present
    split at present
    · cases present
    · exact h.drain r present
  | grantF g i _ _ _ =>
    exact { h with entries := forall_set (p := fun _ => DttEntry.Holds s.asks) h.entries (h.entries i) }
  | grantR g i r _ _ _ _ pending =>
    refine { h with slots := forall_set (p := fun _ => StreamSlot.Holds s.asks) h.slots fun d begun => ?_ }
    obtain rfl := Option.some.inj begun
    exact h.slots i r pending
  | segmentDown g =>
    refine { h with entries := forall_mapAll (p := fun _ => DttEntry.Holds s.asks) fun i => ?_ }
    split <;> exact h.entries i
  | _ => exact { h with }

end

/-- Settles O10: a barrier is taken from an entry that the queue holds, and an entry that leaves meets the barriers that
name it. -/
theorem unmetBarriersNameQueuedEntriesKept : Obligations.UnmetBarriersNameQueuedEntriesKept :=
  keptByStep_of_parts (fun _ _ h => h) (fun _ h => h)
    (fun _ _ _ part h => barriersOk_iff.2 (part.holdersOk (barriersOk_iff.1 h)))
    fun _ _ event h => barriersOk_iff.2 (event.holdersOk (barriersOk_iff.1 h))

end Sys2Proof.Machine
end

section
/-! Lookup and translation (R8, R10), and what every step keeps, sixth part: window records pass the checks, and every
item lies in one block (R2, R10, R68, R107, R127). -/

namespace Sys2Proof.Machine

/-! ### The window of an address (R8) -/

theorem WindowRecord.contains_iff {w : WindowRecord} {a : Word} : w.contains a = true ↔
    w.valid = true ∧ w.base.toNat ≤ a.toNat ∧ a.toNat < w.base.toNat + 2 ^ w.sizeCode.toNat := by
  simp only [WindowRecord.contains, WindowRecord.spans, Bool.and_eq_true, decide_eq_true_eq]
  rfl

theorem cleared_contains (a : Word) : WindowRecord.cleared.contains a = false := rfl

/-- A record that a bank may hold and that contains an address passed the checks of STAGE WINDOW (R2). -/
theorem WindowRecord.passes_of_contains {w : WindowRecord} {a : Word} (ok : w.ok = true) (h : w.contains a = true) :
    w.passes = true := by
  rcases Bool.or_eq_true_iff.1 ok with cleared | passed
  · rw [of_decide_eq_true cleared, cleared_contains] at h
    contradiction
  · exact (Bool.and_eq_true_iff.1 passed).2

/-- The size of a record that passed the checks is a multiple of 4096. -/
theorem WindowRecord.size_of_passes {w : WindowRecord} (h : w.passes = true) :
    (∃ k, w.size = 4096 * k) ∧ w.base.toNat % w.size = 0 ∧ w.targetBase.toNat % 4096 = 0 ∧
      w.targetBase.toNat + w.size ≤ 2 ^ 28 := by
  simp only [WindowRecord.passes, Bool.and_eq_true, decide_eq_true_eq, and_assoc] at h
  obtain ⟨least, -, base, target, fits, -⟩ := h
  refine ⟨⟨2 ^ (w.sizeCode.toNat - 12), ?_⟩, base, target, fits⟩
  rw [WindowRecord.size, show (4096 : Nat) = 2 ^ 12 from rfl, ← Nat.pow_add]
  congr 1
  omega

/-- The numbers of a record that passed the checks: the base and the size are multiples of 4096. -/
theorem WindowRecord.aligned_of_passes {w : WindowRecord} (h : w.passes = true) :
    w.size % 4096 = 0 ∧ w.base.toNat % 4096 = 0 := by
  obtain ⟨⟨k, size⟩, base, -⟩ := WindowRecord.size_of_passes h
  refine ⟨by omega, Nat.mod_eq_zero_of_dvd (Nat.dvd_trans ⟨k, size⟩ (Nat.dvd_of_mod_eq_zero base))⟩

/-- The window of a record that passed the checks ends within the 2^32 addresses. -/
theorem WindowRecord.windowEnd_le {w : WindowRecord} (h : w.passes = true) : w.windowEnd ≤ 2 ^ 32 := by
  obtain ⟨-, base, -⟩ := WindowRecord.size_of_passes h
  simp only [WindowRecord.passes, Bool.and_eq_true, decide_eq_true_eq, and_assoc] at h
  obtain ⟨-, most, -⟩ := h
  have whole : (2 : Nat) ^ 32 = w.size * 2 ^ (32 - w.sizeCode.toNat) := by
    rw [WindowRecord.size, ← Nat.pow_add]
    congr 1
    omega
  obtain ⟨m, base⟩ := Nat.dvd_of_mod_eq_zero base
  have below : w.size * m < w.size * 2 ^ (32 - w.sizeCode.toNat) := by
    rw [← base, ← whole]
    exact w.base.isLt
  have next : m + 1 ≤ 2 ^ (32 - w.sizeCode.toNat) := Nat.lt_of_mul_lt_mul_left below
  calc w.windowEnd = w.size * (m + 1) := by rw [WindowRecord.windowEnd, base, Nat.mul_succ]
    _ ≤ w.size * 2 ^ (32 - w.sizeCode.toNat) := Nat.mul_le_mul_left _ next
    _ = 2 ^ 32 := whole.symm

/-- The translation of an address in the window of a record that passed the checks (R10). -/
theorem WindowRecord.translate_toNat {w : WindowRecord} {a : Word} (ok : w.ok = true) (h : w.contains a = true) :
    (w.translate a).toNat = w.targetBase.toNat + (a.toNat - w.base.toNat) := by
  obtain ⟨-, -, -, fits⟩ := WindowRecord.size_of_passes (WindowRecord.passes_of_contains ok h)
  obtain ⟨-, -, below⟩ := WindowRecord.contains_iff.1 h
  rw [WindowRecord.translate, BitVec.toNat_ofNat]
  rw [WindowRecord.size] at fits
  exact Nat.mod_eq_of_lt (by omega)

/-- An address and its translation agree in their low 12 bits. -/
theorem WindowRecord.translate_mod {w : WindowRecord} {a : Word} (ok : w.ok = true) (h : w.contains a = true) :
    (w.translate a).toNat % 4096 = a.toNat % 4096 := by
  have passes := WindowRecord.passes_of_contains ok h
  obtain ⟨-, -, target, -⟩ := WindowRecord.size_of_passes passes
  obtain ⟨-, base⟩ := WindowRecord.aligned_of_passes passes
  obtain ⟨-, above, -⟩ := WindowRecord.contains_iff.1 h
  rw [WindowRecord.translate_toNat ok h]
  omega

/-- Settles O22: the first hit is the lookup's, and a hit's offset from the base is kept by the translation. -/
theorem lookupAndTranslation : Obligations.LookupAndTranslation := by
  have misses (w : WindowRecord) (a : Word) := (Bool.not_eq_true _).symm.to_iff.trans
    (not_congr (WindowRecord.contains_iff (w := w) (a := a)))
  refine ⟨fun bank a => ⟨fun k => ?_, ?_⟩, fun w a ok h => ⟨WindowRecord.translate_toNat ok h,
    (WindowRecord.contains_iff.1 h).2.1, WindowRecord.translate_mod ok h⟩⟩
  · rw [lookup, findFirst_eq_some, WindowRecord.contains_iff]
    exact and_congr_right fun _ => forall₂_congr fun j _ => misses bank[j] a
  · rw [lookup, findFirst_eq_none]
    exact forall_congr' fun j => misses bank[j] a

/-! ### Words in one block (R127) -/

theorem inOneBlock_iff {a : SegAddr} {w : Nat} :
    inOneBlock a w = true ↔ a.toNat % 4 = 0 ∧ a.toNat % 64 + 4 * w ≤ 64 := by
  simp only [inOneBlock, Bool.and_eq_true, decide_eq_true_eq]
  rfl

theorem spanOk_iff {a : Word} {w : Nat} :
    spanOk a w = true ↔ 1 ≤ w ∧ w ≤ 16 ∧ a.toNat % 4 = 0 ∧ a.toNat % 64 + 4 * w ≤ 64 := by
  simp only [spanOk, Bool.and_eq_true, decide_eq_true_eq, and_assoc]
  rfl

/-- What is left of words in one block lies in the block. -/
theorem inOneBlock_rest {a : SegAddr} {w : Nat} (h : inOneBlock a w = true) (p : Nat) :
    inOneBlock (a + BitVec.ofNat 28 (4 * p)) (w - p) = true := by
  rw [inOneBlock_iff] at h ⊢
  rw [BitVec.toNat_add, BitVec.toNat_ofNat]
  omega

/-- A merge stays in the block of its entry (R73). -/
theorem inOneBlock_merge {e : QueueEntry} {o : Owner} {k : WindowIndex} {flag : Bool} {a : SegAddr}
    {ws : List WriteWord} (h : inOneBlock e.segAddr e.words = true) (merges : e.merges o k flag a ws = true)
    (positive : 1 ≤ ws.length) : inOneBlock e.segAddr (e.words + ws.length) = true := by
  rw [inOneBlock_iff] at h ⊢
  have := positive
  simp only [QueueEntry.merges, endsInBlockOf, Bool.and_eq_true, decide_eq_true_eq, and_assoc] at merges
  obtain ⟨-, -, -, -, -, joins, ends, -⟩ := merges
  simp only [endByte, Config.blockBytes] at joins ends
  omega

/-- A request placed in a window lies in one block of the segment, at the same place of it (R10, R24). -/
theorem Placed.inOneBlock {s : State} {k : WindowIndex} {a : Word} {w : Nat} (h : Placed s k a w)
    (ok : s.live[k].ok = true) : inOneBlock (s.live[k].translate a) w = true ∧ a.toNat % 4 = 0 ∧
      blockOffset a.toNat + 4 * w ≤ 64 ∧ blockOffset a.toNat = blockOffset (s.live[k].translate a).toNat := by
  obtain ⟨span, contains, -⟩ := h
  have low := WindowRecord.translate_mod ok contains
  rw [spanOk_iff] at span
  rw [inOneBlock_iff]
  simp only [blockOffset, Config.blockBytes]
  omega

/-! ### Slots in a window (R107, R110, R112, R113) -/

/-- A slot's two next addresses stand at the same place of a block. -/
abbrev StreamSlot.Level (x : StreamSlot) : Prop :=
  blockOffset x.nextAddr.toNat = blockOffset x.nextSegAddr.toNat ∧ x.nextAddr.toNat % 4 = 0

theorem StreamSlot.blocksOk_iff {x : StreamSlot} :
    x.blocksOk = true ↔ x.Level ∧ ∀ r ∈ x.refill, inOneBlock r.start r.words = true := by
  simp [StreamSlot.blocksOk, StreamSlot.Level, Option.all_eq_true]

theorem StreamSlot.level_serve {x : StreamSlot} (h : x.Level) (w : Nat) (now idle : Time) :
    (x.serve w now idle).Level := by
  simp only [StreamSlot.Level, StreamSlot.serve, blockOffset, Config.blockBytes, BitVec.toNat_add,
    BitVec.toNat_ofNat] at h ⊢
  omega

/-- A refill starts where the held words end and stays in that block (R113). -/
theorem StreamSlot.inOneBlock_refill {x : StreamSlot} (h : x.Level) :
    inOneBlock (x.nextSegAddr + BitVec.ofNat 28 (4 * x.held.length)) x.refillWords = true := by
  have clipped : x.refillWords ≤ (64 - (x.nextAddr.toNat + 4 * x.held.length) % 64) / 4 := Nat.min_le_left _ _
  rw [inOneBlock_iff, BitVec.toNat_add, BitVec.toNat_ofNat]
  simp only [StreamSlot.Level, blockOffset, Config.blockBytes] at h
  omega

/-- The address behind a request that ends before its window does lies in the window (R110). -/
theorem WindowRecord.contains_next {w : WindowRecord} {a : Word} {n : Nat} (ok : w.ok = true)
    (h : w.contains a = true) (block : blockOffset a.toNat + 4 * n ≤ 64) (inside : a.toNat + 4 * n ≠ w.windowEnd) :
    w.contains (a + BitVec.ofNat 32 (4 * n)) = true ∧
      (a + BitVec.ofNat 32 (4 * n)).toNat = a.toNat + 4 * n := by
  have passes := WindowRecord.passes_of_contains ok h
  have last := WindowRecord.windowEnd_le passes
  obtain ⟨size, base⟩ := WindowRecord.aligned_of_passes passes
  obtain ⟨valid, above, below⟩ := WindowRecord.contains_iff.1 h
  simp only [blockOffset, Config.blockBytes] at block
  simp only [WindowRecord.windowEnd, WindowRecord.size] at inside last size
  have next : (a + BitVec.ofNat 32 (4 * n)).toNat = a.toNat + 4 * n := by
    rw [BitVec.toNat_add, BitVec.toNat_ofNat]
    omega
  exact ⟨WindowRecord.contains_iff.2 ⟨valid, by omega, by omega⟩, next⟩

/-! ### Items by their places -/

/-- An entry lies in one block, under its two addresses; a stream-flagged one lies in the window it was created under,
in the LIVE bank (R12, R44, R110). -/
abbrev DttEntry.Lies (live : Vector WindowRecord 24) (e : DttEntry) : Prop :=
  inOneBlock e.segAddr e.words = true ∧ e.address.toNat % 4 = 0 ∧ blockOffset e.address.toNat + 4 * e.words ≤ 64 ∧
    blockOffset e.address.toNat = blockOffset e.segAddr.toNat ∧
    (e.state ≠ .free → e.streamFlag = true → live[e.window].contains e.address = true)

abbrev PostedQueue.Lies (q : PostedQueue) : Prop := ∀ e ∈ q.entries, inOneBlock e.segAddr e.words = true

abbrev Engine.Lies (e : Engine) : Prop := ∀ c ∈ e.cycle, inOneBlock c.segAddr c.words = true

/-- What BlocksOk says, by the item. -/
structure PlacesOk (s : State) : Prop where
  staged : ∀ k : WindowIndex, s.staged[k].ok = true
  live : ∀ k : WindowIndex, s.live[k].ok = true
  queues : ∀ g : Segment, (s.queues.get g).Lies
  entries : ∀ i : EntryIndex, s.dtt[i].Lies s.live
  slots : ∀ i : SlotIndex, s.slots[i].blocksOk = true
  engines : ∀ g : Segment, (s.engines.get g).Lies

theorem blocksOk_iff {s : State} : BlocksOk s ↔ PlacesOk s := by
  constructor
  · rintro ⟨banks, qa, qb, entries, slots, ea, eb⟩
    refine ⟨fun k => (banks k).1, fun k => (banks k).2, fun g => ?_, entries, slots, fun g => ?_⟩
    · cases g
      exacts [qa, qb]
    · cases g
      exacts [ea, eb]
  · rintro ⟨staged, live, queues, entries, slots, engines⟩
    exact ⟨fun k => ⟨staged k, live k⟩, queues .a, queues .b, entries, slots, engines .a, engines .b⟩

section
variable {s t : State} {live : Vector WindowRecord 24}

/-! ### Entries -/

theorem DttEntry.lies_cleared (live : Vector WindowRecord 24) : DttEntry.cleared.Lies live :=
  ⟨by decide, by decide, by decide, by decide, fun h => absurd rfl h⟩

theorem DttEntry.Lies.release {e : DttEntry} (h : e.Lies live) : e.release.Lies live := by
  rcases e.release_cases with ⟨same, -⟩ | ⟨cleared, -⟩ | ⟨abandoned, issued⟩
  · rwa [same]
  · rw [cleared]
    exact DttEntry.lies_cleared live
  · obtain ⟨block, aligned, fits, level, window⟩ := h
    rw [abandoned]
    exact ⟨block, aligned, fits, level, fun _ => window (ne_of_eq_of_ne issued (by decide))⟩

/-- A COMMIT leaves no stream flag, so the new LIVE bank is not asked (R12). -/
theorem DttEntry.Lies.commit {e : DttEntry} (h : e.Lies live) (bank : Vector WindowRecord 24) : e.commit.Lies bank := by
  obtain ⟨block, aligned, fits, level, -⟩ := h
  unfold DttEntry.commit
  split
  · exact ⟨block, aligned, fits, level, fun used => absurd ‹_› used⟩
  · exact DttEntry.lies_cleared bank
  all_goals exact ⟨block, aligned, fits, level, fun _ flag => (Bool.false_ne_true flag).elim⟩

/-- An entry that is not FREE may change all but its place and its stream flag. -/
theorem DttEntry.Lies.of_used {e f : DttEntry} (h : e.Lies live) (used : e.state ≠ .free) (segAddr : f.segAddr = e.segAddr)
    (words : f.words = e.words) (address : f.address = e.address) (flag : f.streamFlag = e.streamFlag)
    (window : f.window = e.window) : f.Lies live := by
  obtain ⟨block, aligned, fits, level, inside⟩ := h
  have record : live[f.window] = live[e.window] := congrArg (fun k : WindowIndex => live[k]) window
  rw [DttEntry.Lies, segAddr, words, address, flag, record]
  exact ⟨block, aligned, fits, level, fun _ => inside used⟩

theorem DttEntry.Lies.meet {e : DttEntry} (h : e.Lies live) (g : Segment) (b : Seq) : (e.meet g b).Lies live := by
  unfold DttEntry.meet
  split <;> exact h

theorem DttEntry.Lies.meetAll {e : DttEntry} (h : e.Lies live) (g : Segment) (es : List QueueEntry) :
    (e.meetAll g es).Lies live := by
  unfold DttEntry.meetAll
  split <;> exact h

/-! ### Slots -/

theorem StreamSlot.blocksOk_cleared : StreamSlot.cleared.blocksOk = true := by decide

theorem StreamSlot.blocksOk_drop {x : StreamSlot} (h : x.blocksOk = true) : x.drop.blocksOk = true := by
  rcases x.drop_cases with ⟨same, -⟩ | ⟨cleared, -⟩ | ⟨retired, -⟩
  · rwa [same]
  · rw [cleared]
    exact StreamSlot.blocksOk_cleared
  · rw [retired]
    exact h

/-- A slot whose refills keep their place. -/
theorem StreamSlot.blocksOk_of_refill {x y : StreamSlot} (h : x.blocksOk = true) (next : y.nextAddr = x.nextAddr)
    (nextSeg : y.nextSegAddr = x.nextSegAddr)
    (refills : ∀ r ∈ y.refill, ∃ d ∈ x.refill, r.start = d.start ∧ r.words = d.words) : y.blocksOk = true := by
  obtain ⟨level, blocks⟩ := StreamSlot.blocksOk_iff.1 h
  refine StreamSlot.blocksOk_iff.2 ⟨by rwa [StreamSlot.Level, next, nextSeg], fun r pending => ?_⟩
  obtain ⟨d, before, start, words⟩ := refills r pending
  rw [start, words]
  exact blocks d before

theorem StreamSlot.blocksOk_meet {x : StreamSlot} (h : x.blocksOk = true) (g : Segment) (b : Seq) :
    (x.meet g b).blocksOk = true := by
  unfold StreamSlot.meet
  split
  · refine StreamSlot.blocksOk_of_refill h rfl rfl fun r pending => ?_
    obtain ⟨d, before, rfl⟩ := Option.map_eq_some_iff.1 pending
    exact ⟨d, before, rfl, rfl⟩
  · exact h

theorem StreamSlot.blocksOk_meetAll {x : StreamSlot} (h : x.blocksOk = true) (g : Segment) (es : List QueueEntry) :
    (x.meetAll g es).blocksOk = true := by
  unfold StreamSlot.meetAll
  split
  · refine StreamSlot.blocksOk_of_refill h rfl rfl fun r pending => ?_
    obtain ⟨d, before, rfl⟩ := Option.map_eq_some_iff.1 pending
    exact ⟨d, before, rfl, rfl⟩
  · exact h

theorem KeptOrDropped.blocksOk {u v : Vector StreamSlot 4} (dropped : KeptOrDropped u v)
    (h : ∀ i : SlotIndex, u[i].blocksOk = true) (i : SlotIndex) : v[i].blocksOk = true := by
  rcases dropped i with same | gone
  · exact (congrArg StreamSlot.blocksOk same).trans (h i)
  · exact (congrArg StreamSlot.blocksOk gone).trans (StreamSlot.blocksOk_drop (h i))

/-- A new slot stands behind its entry's words, in the window (R112). -/
theorem newSlot_blocksOk {e : DttEntry} (h : e.Lies s.live) (used : e.state ≠ .free) (flagged : e.streamFlag = true)
    (ok : s.live[e.window].ok = true) (inside : e.address.toNat + 4 * e.words ≠ s.live[e.window].windowEnd) (o : Owner)
    (g : Segment) : (newSlot o e.window g (e.address + BitVec.ofNat 32 (4 * e.words)) s).blocksOk = true := by
  obtain ⟨-, aligned, fits, -, window⟩ := h
  obtain ⟨contains, next⟩ := WindowRecord.contains_next ok (window used flagged) fits inside
  have low := WindowRecord.translate_mod ok contains
  refine StreamSlot.blocksOk_iff.2 ⟨?_, fun r pending => by cases pending⟩
  simp only [StreamSlot.Level, newSlot, blockOffset, Config.blockBytes]
  omega

/-! ### Queues -/

theorem mem_closeTail {q : PostedQueue} (h : q.Lies) : q.closeTail.Lies := by
  intro e held
  rcases mem_mapLast held with before | ⟨d, before, rfl⟩
  · exact h e before
  · exact h d before

theorem append_words (e : QueueEntry) (ws : List WriteWord) :
    (e.append ws).segAddr = e.segAddr ∧ (e.append ws).words = e.words + ws.length := by
  unfold QueueEntry.append
  dsimp only
  split <;> exact ⟨rfl, List.length_append⟩

theorem newQueueEntry_words (s : State) (o : Owner) (k : WindowIndex) (a : SegAddr) (ws : List WriteWord) (b : Seq) :
    (newQueueEntry s o k a ws b).segAddr = a ∧ (newQueueEntry s o k a ws b).words = ws.length := by
  unfold newQueueEntry
  dsimp only
  split <;> exact ⟨rfl, rfl⟩

/-! ### Every change -/

theorem discard_placesOk (g : Segment) (c : Cause) (h : PlacesOk s) : PlacesOk (discardQueue g c s).1 := by
  rw [discardQueue_fields]
  exact { h with
    queues := PerSegment.forall_set (p := fun _ => PostedQueue.Lies) h.queues fun e held => by cases held
    entries := forall_mapAll (p := fun _ => DttEntry.Lies s.live) fun i => (h.entries i).meetAll g _
    slots := forall_mapAll (p := fun _ (x : StreamSlot) => x.blocksOk = true) fun i => StreamSlot.blocksOk_meetAll (h.slots i) g _ }

theorem Work.placesOk (w : Work s t) (h : PlacesOk s) : PlacesOk t := by
  have setQueue (g : Segment) {q : PostedQueue} (hq : q.Lies) :=
    PerSegment.forall_set (p := fun _ => PostedQueue.Lies) (g := g) h.queues hq
  have setSlot (i : SlotIndex) {x : StreamSlot} (hx : x.blocksOk = true) :=
    forall_set (p := fun _ (x : StreamSlot) => x.blocksOk = true) (i := i) h.slots hx
  cases w with
  | drop v dropped => exact { h with slots := dropped.blocksOk h.slots }
  | release v released =>
    refine { h with entries := fun i => ?_ }
    rcases released i with same | gone
    · exact (congrArg (DttEntry.Lies s.live) same).mpr (h.entries i)
    · exact (congrArg (DttEntry.Lies s.live) gone).mpr (h.entries i).release
  | closeTail g => exact { h with queues := setQueue g (mem_closeTail (h.queues g)) }
  | serve i w =>
    obtain ⟨level, blocks⟩ := StreamSlot.blocksOk_iff.1 (h.slots i)
    exact { h with slots := setSlot i (StreamSlot.blocksOk_iff.2 ⟨StreamSlot.level_serve level w _ _, blocks⟩) }
  | refill i wants =>
    obtain ⟨level, -⟩ := StreamSlot.blocksOk_iff.1 (h.slots i)
    refine { h with slots := setSlot i (StreamSlot.blocksOk_iff.2 ⟨level, fun r pending => ?_⟩) }
    obtain rfl := Option.some.inj pending
    exact StreamSlot.inOneBlock_refill level
  | fill j o i v ready flagged inside _ _ dropped _ _ =>
    exact { h with
      slots := forall_set (p := fun _ (x : StreamSlot) => x.blocksOk = true) (dropped.blocksOk h.slots)
        (newSlot_blocksOk (h.entries j) (ne_of_eq_of_ne ready (by decide)) flagged (h.live _) inside o _) }
  | create i o kind a w ws k _ _ _ placed =>
    obtain ⟨block, aligned, fits, level⟩ := placed.inOneBlock (h.live k)
    refine { h with entries := ?_ }
    exact forall_set (p := fun _ => DttEntry.Lies s.live) h.entries
      ⟨block, aligned, fits, level, fun _ _ => placed.2.1⟩
  | merge o k a ws e tail merges placed =>
    refine { h with queues := setQueue _ fun d held => ?_ }
    rcases List.mem_append.1 held with before | last
    · exact h.queues _ d (List.dropLast_subset _ before)
    · obtain rfl := List.mem_singleton.1 last
      obtain ⟨segAddr, words⟩ := append_words e ws
      rw [segAddr, words]
      exact inOneBlock_merge (h.queues _ e (List.mem_of_getLast? tail)) merges (spanOk_iff.1 placed.1).1
  | push o k a ws _ placed =>
    refine { h with queues := setQueue _ fun d held => ?_ }
    rcases List.mem_append.1 held with before | last
    · exact mem_closeTail (h.queues _) d before
    · obtain rfl := List.mem_singleton.1 last
      obtain ⟨segAddr, words⟩ := newQueueEntry_words s o k (s.live[k].translate a) ws
        ((s.queues.get s.live[k].segment).counter + 1)
      rw [segAddr, words]
      exact (placed.inOneBlock (h.live k)).1
  | stage k w ok => exact { h with staged := forall_set (p := fun _ (w : WindowRecord) => w.ok = true) h.staged ok }
  | commit =>
    exact { h with
      live := h.staged
      entries := forall_mapAll (p := fun _ => DttEntry.Lies s.staged) fun i => (h.entries i).commit s.staged }
  | mark g x count _ _ =>
    exact { h with engines := PerSegment.forall_set (p := fun _ => Engine.Lies) h.engines (h.engines g) }
  | discard g c => exact discard_placesOk g c h
  | _ => exact { h with }

theorem Part.placesOk {g : Segment} (part : Part g s t) (h : PlacesOk s) : PlacesOk t := by
  have setEntry (i : EntryIndex) {e : DttEntry} (he : e.Lies s.live) :=
    forall_set (p := fun _ => DttEntry.Lies s.live) (i := i) h.entries he
  have setSlot (i : SlotIndex) {x : StreamSlot} (hx : x.blocksOk = true) :=
    forall_set (p := fun _ (x : StreamSlot) => x.blocksOk = true) (i := i) h.slots hx
  have setQueue {q : PostedQueue} (hq : q.Lies) :=
    PerSegment.forall_set (p := fun _ => PostedQueue.Lies) (g := g) h.queues hq
  cases part with
  | work w => exact w.placesOk h
  | idle =>
    exact { h with engines := PerSegment.forall_set (p := fun _ => Engine.Lies) h.engines fun c busy => by cases busy }
  | retire e rest head =>
    exact { h with
      queues := setQueue fun d held => h.queues g d (head ▸ List.mem_cons_of_mem e held)
      entries := forall_mapAll (p := fun _ => DttEntry.Lies s.live) fun i => (h.entries i).meet g _
      slots := forall_mapAll (p := fun _ (x : StreamSlot) => x.blocksOk = true) fun i => StreamSlot.blocksOk_meet (h.slots i) g _ }
  | stay e rest progress backoff head =>
    refine { h with queues := setQueue fun d held => ?_ }
    rcases List.mem_cons.1 held with rfl | later
    · exact h.queues g e (head ▸ List.mem_cons_self)
    · exact h.queues g d (head ▸ List.mem_cons_of_mem e later)
  | ready i o data progress backoff issued =>
    exact { h with entries := setEntry i ((h.entries i).of_used (ne_of_eq_of_ne issued (by decide)) rfl rfl rfl rfl rfl) }
  | partly i data progress backoff issued =>
    exact { h with entries := setEntry i ((h.entries i).of_used (ne_of_eq_of_ne issued (by decide)) rfl rfl rfl rfl rfl) }
  | forget i _ => exact { h with entries := setEntry i (DttEntry.lies_cleared _) }
  | refilled i held _ =>
    exact { h with slots := setSlot i (StreamSlot.blocksOk_of_refill (h.slots i) rfl rfl fun r pending => by cases pending) }
  | refillLater i p held progress backoff _ pending =>
    refine { h with slots := setSlot i (StreamSlot.blocksOk_of_refill (h.slots i) rfl rfl fun r later => ?_) }
    obtain rfl := Option.some.inj later
    exact ⟨p, pending, rfl, rfl⟩
  | clear i _ => exact { h with slots := setSlot i StreamSlot.blocksOk_cleared }
  | _ => exact { h with }

theorem passWord_place (c : Cycle) (w : Word) (parity : BitVec 4) (now : Time) :
    (c.passWord w parity now).segAddr = c.segAddr ∧ (c.passWord w parity now).words = c.words := by
  unfold Cycle.passWord
  split <;> exact ⟨rfl, rfl⟩

theorem Event.placesOk (event : Event s t) (h : PlacesOk s) : PlacesOk t := by
  have started (g : Segment) {e : Engine} {c : Cycle} (cycle : e.cycle = some c)
      (block : inOneBlock c.segAddr c.words = true) :=
    PerSegment.forall_set (p := fun _ => Engine.Lies) (g := g) (x := e) h.engines fun d busy => by
      obtain rfl := Option.some.inj (cycle.symm.trans busy)
      exact block
  cases event with
  | powerOn => exact blocksOk_iff.1 (by decide : BlocksOk State.reset)
  | leave n _ =>
    rw [leaveLane_fields]
    exact { h with }
  | grantW g e _ _ head =>
    exact { h with engines := started g rfl (inOneBlock_rest (h.queues g e (List.mem_of_mem_head? head)) e.progress) }
  | grantF g i _ _ grantable =>
    have used : s.dtt[i].state ≠ .free := by
      rcases DttEntry.waits_of_grantable grantable with queued | partly
      · exact ne_of_eq_of_ne queued (by decide)
      · exact ne_of_eq_of_ne partly (by decide)
    refine { h with entries := ?_, engines := started g rfl (inOneBlock_rest (h.entries i).1 s.dtt[i].progress) }
    exact forall_set (p := fun _ => DttEntry.Lies s.live) h.entries ((h.entries i).of_used used rfl rfl rfl rfl rfl)
  | grantR g i r _ _ _ _ pending =>
    obtain ⟨-, blocks⟩ := StreamSlot.blocksOk_iff.1 (h.slots i)
    refine { h with slots := ?_, engines := started g rfl (inOneBlock_rest (blocks r pending) r.progress) }
    refine forall_set (p := fun _ (x : StreamSlot) => x.blocksOk = true) h.slots
      (StreamSlot.blocksOk_of_refill (h.slots i) rfl rfl fun d begun => ?_)
    obtain rfl := Option.some.inj begun
    exact ⟨r, pending, rfl, rfl⟩
  | claim g c cycle => exact { h with engines := started g rfl (h.engines g c cycle) }
  | word g c w parity cycle _ =>
    obtain ⟨segAddr, words⟩ := passWord_place c w parity s.timebase
    exact { h with engines := started g rfl (by rw [segAddr, words]; exact h.engines g c cycle) }
  | segmentDown g =>
    refine { h with entries := forall_mapAll (p := fun _ => DttEntry.Lies s.live) fun i => ?_ }
    split
    · rename_i waits
      refine (h.entries i).of_used ?_ rfl rfl rfl rfl rfl
      rcases waits.2 with queued | partly
      · exact ne_of_eq_of_ne queued (by decide)
      · exact ne_of_eq_of_ne partly (by decide)
    · exact h.entries i
  | faulted g _ _ _ _ =>
    exact { h with engines := PerSegment.forall_set (p := fun _ => Engine.Lies) h.engines (h.engines g) }
  | _ => exact { h with }

end

/-- Settles O14: an item is placed in one block of its window, what is left of it stays there, and a COMMIT leaves no
entry that still relies on the old bank. -/
theorem itemsInOneBlockKept : Obligations.ItemsInOneBlockKept :=
  keptByStep_of_parts (fun _ _ h => h) (fun _ h => h)
    (fun _ _ _ part h => blocksOk_iff.2 (part.placesOk (blocksOk_iff.1 h)))
    fun _ _ event h => blocksOk_iff.2 (event.placesOk (blocksOk_iff.1 h))

end Sys2Proof.Machine
end

section
/-! What every step keeps, seventh part: what is on the bus is the item of its engine's cycle, and a FAULTED segment is
quiet (R106, R108, R122, R134, R137, R145). -/

namespace Sys2Proof.Machine

/-! ### Items and their engines -/

/-- The engine's cycle is for the item (R134). -/
abbrev Engine.CarriesItem (e : Engine) (item : WorkItem) : Prop := (e.cycle.any fun c => c.item = item) = true

theorem Engine.carriesItem_of_cycle {e : Engine} {c : Cycle} {item : WorkItem} (cycle : e.cycle = some c) :
    e.CarriesItem item ↔ c.item = item := by
  rw [Engine.CarriesItem, cycle, Option.any_some, decide_eq_true_eq]

theorem Engine.not_carriesItem {e : Engine} {item : WorkItem} (idle : e.cycle = none) : ¬e.CarriesItem item := by
  rw [Engine.CarriesItem, idle]
  exact Bool.false_ne_true

/-- What BusOk says of the entry i. -/
abbrev DttEntry.OnBusOk (p : PerSegment Engine) (i : EntryIndex) (e : DttEntry) : Prop :=
  (e.state = .issued ∨ e.state = .abandoned → (p.get e.segment).CarriesItem (.dttEntry i)) ∧
    ((p.get e.segment).state = .faulted → e.state ≠ .queued ∧ e.state ≠ .issued ∧ e.state ≠ .partly)

/-- What BusOk says of the slot i. -/
abbrev StreamSlot.OnBusOk (p : PerSegment Engine) (i : SlotIndex) (x : StreamSlot) : Prop :=
  (x.state = .retiring ∨ x.state = .filling ∧ x.inCycle = true → (p.get x.segment).CarriesItem (.streamSlot i)) ∧
    (x.refill.isSome = true ↔ x.state = .filling ∨ x.state = .retiring) ∧
    ((p.get x.segment).state = .faulted → x.state = .empty)

/-- A request order lists slots of its segment with a pending refill (R108). -/
abbrev OrderOk (v : Vector StreamSlot 4) (g : Segment) (l : List SlotIndex) : Prop :=
  ∀ i ∈ l, v[i].segment = g ∧ v[i].refill.isSome = true

/-- What BusOk says, by the item and by the segment. -/
structure BusItems (s : State) : Prop where
  entries : ∀ i : EntryIndex, s.dtt[i].OnBusOk s.engines i
  slots : ∀ i : SlotIndex, s.slots[i].OnBusOk s.engines i
  order : ∀ g : Segment, OrderOk s.slots g (s.refillOrder.get g)
  quiet : ∀ g : Segment, (s.engines.get g).state = .faulted →
    (s.queues.get g).entries = [] ∧ (s.engines.get g).cycle = none

theorem busOk_iff {s : State} : BusOk s ↔ BusItems s := by
  constructor
  · rintro ⟨⟨entries, slots, pending, orderA, orderB⟩, a, b⟩
    have quiet (g : Segment) : FaultedQuiet s g := by
      cases g
      exacts [a, b]
    refine ⟨fun i => ⟨entries i, fun faulted => (quiet _ faulted).2.2.1 i rfl⟩,
      fun i => ⟨slots i, pending i, fun faulted => (quiet _ faulted).2.2.2 i rfl⟩, fun g => ?_,
      fun g faulted => ⟨(quiet g faulted).1, (quiet g faulted).2.1⟩⟩
    cases g
    exacts [orderA, orderB]
  · rintro ⟨entries, slots, order, quiet⟩
    have faultedQuiet (g : Segment) : FaultedQuiet s g := fun faulted =>
      ⟨(quiet g faulted).1, (quiet g faulted).2, fun i own => (entries i).2 (own ▸ faulted),
        fun i own => (slots i).2.2 (own ▸ faulted)⟩
    exact ⟨⟨fun i => (entries i).1, fun i => (slots i).1, fun i => (slots i).2.1, order .a, order .b⟩,
      faultedQuiet .a, faultedQuiet .b⟩

section
variable {s t : State} {p q : PerSegment Engine}

/-! ### Entries -/

theorem DttEntry.onBusOk_of_off {e : DttEntry} {i : EntryIndex} (h : e.state = .free ∨ e.state = .ready) :
    e.OnBusOk p i := by
  rcases h with h | h <;> simp [DttEntry.OnBusOk, h]

theorem DttEntry.OnBusOk.release {e : DttEntry} {i : EntryIndex} (h : e.OnBusOk p i) : e.release.OnBusOk p i := by
  rcases e.release_cases with ⟨same, -⟩ | ⟨cleared, -⟩ | ⟨abandoned, issued⟩
  · rwa [same]
  · rw [cleared]
    exact DttEntry.onBusOk_of_off (.inl rfl)
  · rw [abandoned]
    exact ⟨fun _ => h.1 (.inl issued), fun _ => ⟨by simp, by simp, by simp⟩⟩

theorem DttEntry.OnBusOk.commit {e : DttEntry} {i : EntryIndex} (h : e.OnBusOk p i) : e.commit.OnBusOk p i := by
  unfold DttEntry.commit
  split
  · exact h
  · exact DttEntry.onBusOk_of_off (.inl rfl)
  all_goals exact h

theorem DttEntry.OnBusOk.meet {e : DttEntry} {i : EntryIndex} (h : e.OnBusOk p i) (g : Segment) (b : Seq) :
    (e.meet g b).OnBusOk p i := by
  unfold DttEntry.meet
  split <;> exact h

theorem DttEntry.OnBusOk.meetAll {e : DttEntry} {i : EntryIndex} (h : e.OnBusOk p i) (g : Segment)
    (es : List QueueEntry) : (e.meetAll g es).OnBusOk p i := by
  unfold DttEntry.meetAll
  split <;> exact h

/-- An entry whose engine carries what it carried and is FAULTED no sooner. -/
theorem DttEntry.OnBusOk.mono {e : DttEntry} {i : EntryIndex} (h : e.OnBusOk p i)
    (carries : ∀ item, (p.get e.segment).CarriesItem item → (q.get e.segment).CarriesItem item)
    (faulted : (q.get e.segment).state = .faulted → (p.get e.segment).state = .faulted) : e.OnBusOk q i :=
  ⟨fun busy => carries _ (h.1 busy), fun f => h.2 (faulted f)⟩

/-! ### Slots -/

theorem StreamSlot.onBusOk_cleared (p : PerSegment Engine) (i : SlotIndex) : StreamSlot.cleared.OnBusOk p i :=
  ⟨by simp [StreamSlot.cleared], by simp [StreamSlot.cleared], fun _ => rfl⟩

/-- A HOLDING slot, on a segment that is not FAULTED. -/
theorem StreamSlot.onBusOk_holding {x : StreamSlot} {i : SlotIndex} (state : x.state = .holding)
    (refill : x.refill = none) (up : (p.get x.segment).state ≠ .faulted) : x.OnBusOk p i :=
  ⟨by simp [state], by simp [state, refill], fun faulted => absurd faulted up⟩

/-- A FILLING slot whose refill waits, on a segment that is not FAULTED. -/
theorem StreamSlot.onBusOk_filling {x : StreamSlot} {r : PendingRefill} {i : SlotIndex} (state : x.state = .filling)
    (refill : x.refill = some r) (waits : r.inCycle = false) (up : (p.get x.segment).state ≠ .faulted) :
    x.OnBusOk p i :=
  ⟨by simp [StreamSlot.inCycle, state, refill, waits], by simp [state, refill], fun faulted => absurd faulted up⟩

/-- A slot in use is on no FAULTED segment (R122). -/
theorem StreamSlot.OnBusOk.up {x : StreamSlot} {i : SlotIndex} (h : x.OnBusOk p i) (used : x.state ≠ .empty) :
    (p.get x.segment).state ≠ .faulted := fun faulted => used (h.2.2 faulted)

theorem StreamSlot.OnBusOk.drop {x : StreamSlot} {i : SlotIndex} (h : x.OnBusOk p i) : x.drop.OnBusOk p i := by
  rcases x.drop_cases with ⟨same, -⟩ | ⟨cleared, -⟩ | ⟨retired, filling, busy⟩
  · rwa [same]
  · rw [cleared]
    exact StreamSlot.onBusOk_cleared p i
  · rw [retired]
    refine ⟨fun _ => h.1 (.inr ⟨filling, busy⟩), ?_, fun faulted => ?_⟩
    · simp [h.2.1.2 (.inl filling)]
    · exact absurd faulted (h.up (ne_of_eq_of_ne filling (by decide)))

/-- A change of the pending refill that keeps whether there is one and whether it is in a cycle. -/
theorem StreamSlot.onBusOk_mapRefill {x : StreamSlot} {i : SlotIndex} (h : x.OnBusOk p i)
    {f : PendingRefill → PendingRefill} (same : ∀ r, (f r).inCycle = r.inCycle) :
    ({ x with refill := x.refill.map f } : StreamSlot).OnBusOk p i := by
  have inCycle : ({ x with refill := x.refill.map f } : StreamSlot).inCycle = x.inCycle := by
    simp only [StreamSlot.inCycle]
    cases x.refill with
    | none => rfl
    | some r => exact same r
  refine ⟨fun busy => h.1 (by rwa [inCycle] at busy), ?_, h.2.2⟩
  rw [Option.isSome_map]
  exact h.2.1

theorem StreamSlot.OnBusOk.meet {x : StreamSlot} {i : SlotIndex} (h : x.OnBusOk p i) (g : Segment) (b : Seq) :
    (x.meet g b).OnBusOk p i := by
  unfold StreamSlot.meet
  split
  · exact StreamSlot.onBusOk_mapRefill h fun _ => rfl
  · exact h

theorem StreamSlot.OnBusOk.meetAll {x : StreamSlot} {i : SlotIndex} (h : x.OnBusOk p i) (g : Segment)
    (es : List QueueEntry) : (x.meetAll g es).OnBusOk p i := by
  unfold StreamSlot.meetAll
  split
  · exact StreamSlot.onBusOk_mapRefill h fun _ => rfl
  · exact h

theorem StreamSlot.OnBusOk.mono {x : StreamSlot} {i : SlotIndex} (h : x.OnBusOk p i)
    (carries : ∀ item, (p.get x.segment).CarriesItem item → (q.get x.segment).CarriesItem item)
    (faulted : (q.get x.segment).state = .faulted → (p.get x.segment).state = .faulted) : x.OnBusOk q i :=
  ⟨fun busy => carries _ (h.1 busy), h.2.1, fun f => h.2.2 (faulted f)⟩

theorem KeptOrDropped.onBusOk {u v : Vector StreamSlot 4} (dropped : KeptOrDropped u v)
    (h : ∀ i : SlotIndex, u[i].OnBusOk p i) (i : SlotIndex) : v[i].OnBusOk p i := by
  rcases dropped i with same | gone
  · exact (congrArg (StreamSlot.OnBusOk p i) same).mpr (h i)
  · exact (congrArg (StreamSlot.OnBusOk p i) gone).mpr (h i).drop

/-! ### The request order (R108) -/

/-- A write of the slots leaves the others in their order, when no pending refill changes its segment. -/
theorem orderOk_setSlots (h : ∀ g, OrderOk s.slots g (s.refillOrder.get g)) {v : Vector StreamSlot 4}
    (same : ∀ i : SlotIndex, s.slots[i].refill.isSome = true → v[i].refill.isSome = true →
      v[i].segment = s.slots[i].segment) (g : Segment) : OrderOk v g ((s.setSlots v).refillOrder.get g) := by
  intro i listed
  have filtered : (s.setSlots v).refillOrder.get g = (s.refillOrder.get g).filter fun i => v[i].refill.isSome :=
    PerSegment.get_map _ s.refillOrder g
  rw [filtered, List.mem_filter] at listed
  obtain ⟨before, pending⟩ := listed
  obtain ⟨segment, some⟩ := h g i before
  exact ⟨(same i some pending).trans segment, pending⟩

theorem orderOk_setSlot (h : ∀ g, OrderOk s.slots g (s.refillOrder.get g)) {i : SlotIndex} {x : StreamSlot}
    (same : s.slots[i].refill.isSome = true → x.refill.isSome = true → x.segment = s.slots[i].segment) (g : Segment) :
    OrderOk (s.slots.set i x) g ((s.setSlot i x).refillOrder.get g) :=
  orderOk_setSlots h (forall_set (p := fun j (y : StreamSlot) => s.slots[j].refill.isSome = true →
    y.refill.isSome = true → y.segment = s.slots[j].segment) (fun _ _ _ => rfl) same) g

theorem StreamSlot.drop_segment {x : StreamSlot} (h : x.drop.refill.isSome = true) : x.drop.segment = x.segment := by
  rcases x.drop_cases with ⟨same, -⟩ | ⟨cleared, -⟩ | ⟨retired, -⟩
  · rw [same]
  · rw [cleared] at h
    exact (Bool.false_ne_true h).elim
  · rw [retired]

theorem KeptOrDropped.segment {u v : Vector StreamSlot 4} (dropped : KeptOrDropped u v) {i : SlotIndex}
    (pending : v[i].refill.isSome = true) : v[i].segment = u[i].segment := by
  rcases dropped i with same | gone
  · exact congrArg StreamSlot.segment same
  · rw [congrArg StreamSlot.segment gone]
    exact StreamSlot.drop_segment ((congrArg (fun x => x.refill.isSome) gone).symm.trans pending)

theorem orderOk_mapAll {f : StreamSlot → StreamSlot} (segment : ∀ x, (f x).segment = x.segment)
    (pending : ∀ x, (f x).refill.isSome = x.refill.isSome) {g : Segment} {l : List SlotIndex}
    (h : OrderOk s.slots g l) : OrderOk (mapAll f s.slots) g l := by
  intro i listed
  rw [mapAll_table, segment, pending]
  exact h i listed

theorem busItems_reset : BusItems State.reset where
  entries i := DttEntry.onBusOk_of_off (.inl ((by decide : ∀ i : EntryIndex, State.reset.dtt[i].state = .free) i))
  slots i := by
    have empty : ∀ i : SlotIndex, State.reset.slots[i] = StreamSlot.cleared := by decide
    exact (congrArg (StreamSlot.OnBusOk _ i) (empty i)).mpr (StreamSlot.onBusOk_cleared _ i)
  order g := by
    cases g <;> exact fun i listed => (List.not_mem_nil listed).elim
  quiet g faulted := by
    cases g <;> contradiction

/-! ### Every change -/

theorem BusItems.setQueue (h : BusItems s) (g : Segment) {q : PostedQueue}
    (hq : (s.engines.get g).state = .faulted → q.entries = []) : BusItems (s.setQueue g q) :=
  { h with
    quiet := PerSegment.forall_set
      (p := fun k (q : PostedQueue) => (s.engines.get k).state = .faulted → q.entries = [] ∧ (s.engines.get k).cycle = none)
      h.quiet fun faulted => ⟨hq faulted, (h.quiet g faulted).2⟩ }

theorem BusItems.setSlot (h : BusItems s) (i : SlotIndex) {x : StreamSlot} (hx : x.OnBusOk s.engines i)
    (segment : x.refill.isSome = true → x.segment = s.slots[i].segment) : BusItems (s.setSlot i x) :=
  { h with
    slots := forall_set (p := fun i (x : StreamSlot) => x.OnBusOk s.engines i) h.slots hx
    order := orderOk_setSlot h.order fun _ => segment }

theorem BusItems.setEntry (h : BusItems s) (i : EntryIndex) {e : DttEntry} (he : e.OnBusOk s.engines i) :
    BusItems (s.setEntry i e) :=
  { h with entries := forall_set (p := fun i (e : DttEntry) => e.OnBusOk s.engines i) h.entries he }

/-- An engine that carries what it carried, is FAULTED no sooner, and has no cycle while it is. -/
theorem BusItems.setEngine (h : BusItems s) (g : Segment) {e : Engine}
    (carries : ∀ item, (s.engines.get g).CarriesItem item → e.CarriesItem item)
    (faulted : e.state = .faulted → (s.engines.get g).state = .faulted ∧ e.cycle = none) : BusItems (s.setEngine g e) := by
  have more (k : Segment) (item : WorkItem) :
      (s.engines.get k).CarriesItem item → ((s.engines.set g e).get k).CarriesItem item :=
    PerSegment.forall_set (p := fun k (e : Engine) => (s.engines.get k).CarriesItem item → e.CarriesItem item)
      (fun _ => id) (carries item) k
  have later (k : Segment) : ((s.engines.set g e).get k).state = .faulted → (s.engines.get k).state = .faulted :=
    PerSegment.forall_set (p := fun k (e : Engine) => e.state = .faulted → (s.engines.get k).state = .faulted)
      (fun _ => id) (fun f => (faulted f).1) k
  refine { h with
    entries := fun i => (h.entries i).mono (more _) (later _)
    slots := fun i => (h.slots i).mono (more _) (later _)
    quiet := fun k f => ⟨(h.quiet k (later k f)).1, ?_⟩ }
  exact PerSegment.forall_set (p := fun _ (e : Engine) => e.state = .faulted → e.cycle = none)
    (fun k f => (h.quiet k f).2) (fun f => (faulted f).2) k f

theorem discard_busItems (g : Segment) (c : Cause) (h : BusItems s) : BusItems (discardQueue g c s).1 := by
  rw [discardQueue_fields]
  have segment (x : StreamSlot) : (x.meetAll g (s.queues.get g).entries).segment = x.segment := x.meetAll_segment g _
  have pending (x : StreamSlot) : (x.meetAll g (s.queues.get g).entries).refill.isSome = x.refill.isSome := by
    unfold StreamSlot.meetAll StreamSlot.refillMet
    split
    · exact Option.isSome_map
    · rfl
  exact {
    entries := forall_mapAll (p := fun i (e : DttEntry) => e.OnBusOk s.engines i) fun i => (h.entries i).meetAll g _
    slots := forall_mapAll (p := fun i (x : StreamSlot) => x.OnBusOk s.engines i) fun i => (h.slots i).meetAll g _
    order := fun k => orderOk_mapAll segment pending (h.order k)
    quiet := (h.setQueue g fun _ => rfl).quiet }

theorem refill_busItems {i : SlotIndex} (h : BusItems s) (holding : s.slots[i].state = .holding) :
    let x := s.slots[i].withRefill (s.queues.get s.slots[i].segment).tailBarrier
    let p := keptOrder (s.slots.set i x) s.refillOrder
    BusItems { s.setSlot i x with
      refillOrder := p.set s.slots[i].segment (p.get s.slots[i].segment ++ [i]) } := by
  intro x p
  have filled : BusItems (s.setSlot i x) := h.setSlot i
    (StreamSlot.onBusOk_filling rfl rfl rfl ((h.slots i).up (ne_of_eq_of_ne holding (by decide)))) fun _ => rfl
  refine ⟨filled.entries, filled.slots, ?_, filled.quiet⟩
  refine PerSegment.forall_set (p := OrderOk (s.slots.set i x)) filled.order fun j listed => ?_
  rcases List.mem_append.1 listed with before | new
  · exact filled.order _ j before
  · obtain rfl := List.mem_singleton.1 new
    rw [table_set_self]
    exact ⟨rfl, rfl⟩

theorem Work.busItems (w : Work s t) (h : BusItems s) : BusItems t := by
  cases w with
  | drop v dropped =>
    exact { h with
      slots := dropped.onBusOk h.slots
      order := orderOk_setSlots h.order fun i _ => dropped.segment }
  | release v released =>
    refine { h with entries := fun i => ?_ }
    rcases released i with same | gone
    · exact (congrArg (DttEntry.OnBusOk s.engines i) same).mpr (h.entries i)
    · exact (congrArg (DttEntry.OnBusOk s.engines i) gone).mpr (h.entries i).release
  | closeTail g => exact h.setQueue g fun faulted => by rw [PostedQueue.closeTail, (h.quiet g faulted).1]; rfl
  | serve i w => exact h.setSlot i (h.slots i) fun _ => rfl
  | refill i wants =>
    have holding : s.slots[i].state = .holding := by
      simp only [StreamSlot.wantsRefill, Bool.and_eq_true, decide_eq_true_eq] at wants
      exact wants.1.1
    exact refill_busItems h holding
  | fill j o i v _ _ _ up _ dropped _ _ =>
    refine { h with
      slots := forall_set (p := fun i (x : StreamSlot) => x.OnBusOk s.engines i) (dropped.onBusOk h.slots)
        (StreamSlot.onBusOk_holding rfl rfl up)
      order := orderOk_setSlots h.order fun l _ => ?_ }
    exact forall_set (p := fun l (x : StreamSlot) => x.refill.isSome = true → x.segment = s.slots[l].segment)
      (x := newSlot o s.dtt[j].window s.dtt[j].segment (s.dtt[j].address + BitVec.ofNat 32 (4 * s.dtt[j].words)) s)
      (fun _ => dropped.segment) (fun pending => (Bool.false_ne_true pending).elim) l
  | create i o kind a w ws k _ _ _ placed =>
    have waits : (newEntry o kind a w ws k s).OnBusOk s.engines i :=
      ⟨by simp [newEntry], fun faulted => absurd faulted placed.2.2⟩
    exact { h.setEntry i waits with }
  | merge o k a ws e _ _ placed => exact h.setQueue _ fun faulted => absurd faulted placed.2.2
  | push o k a ws _ placed => exact h.setQueue _ fun faulted => absurd faulted placed.2.2
  | commit =>
    exact { h with
      entries := forall_mapAll (p := fun i (e : DttEntry) => e.OnBusOk s.engines i) fun i => (h.entries i).commit }
  | mark g x count state _ =>
    refine h.setEngine g (fun _ => id) fun faulted => ?_
    rcases state with other | same
    · exact absurd faulted other
    · have before : (s.engine g).state = .faulted := same.symm.trans faulted
      exact ⟨before, (h.quiet g before).2⟩
  | discard g c => exact discard_busItems g c h
  | _ => exact { h with }

/-- An engine becomes IDLE while no item of its segment is on the bus (R138). -/
theorem engineIdle_busItems {g : Segment} (h : BusItems s) (off : s.offBus g) : BusItems (engineIdle g s) := by
  have other {k : Segment} (d : k ≠ g) : (engineIdle g s).engines.get k = s.engines.get k :=
    PerSegment.get_set_ne _ _ d
  have state (k : Segment) : ((engineIdle g s).engines.get k).state = (s.engines.get k).state :=
    PerSegment.forall_set (p := fun k (e : Engine) => e.state = (s.engines.get k).state)
      (x := { s.engine g with cycle := none }) (fun _ => rfl) rfl k
  refine { h with entries := fun i => ⟨fun busy => ?_, ?_⟩, slots := fun i => ⟨fun busy => ?_, (h.slots i).2.1, ?_⟩,
                  quiet := fun k faulted => ?_ }
  · by_cases own : s.dtt[i].segment = g
    · exact (busy.elim (off.entries i own).1 (off.entries i own).2).elim
    · exact other own ▸ (h.entries i).1 busy
  · exact fun faulted => (h.entries i).2 ((state _).symm.trans faulted)
  · by_cases own : s.slots[i].segment = g
    · exact (busy.elim (off.slots i own).1 (off.slots i own).2).elim
    · exact other own ▸ (h.slots i).1 busy
  · exact fun faulted => (h.slots i).2.2 ((state _).symm.trans faulted)
  · obtain ⟨queue, idle⟩ := h.quiet k ((state k).symm.trans faulted)
    exact ⟨queue, PerSegment.forall_set
      (p := fun k (e : Engine) => (s.engines.get k).state = .faulted → e.cycle = none) (fun k f => (h.quiet k f).2)
      (fun _ => rfl) k ((state k).symm.trans faulted)⟩

theorem retire_busItems {g : Segment} {e : QueueEntry} {rest : List QueueEntry} (h : BusItems s)
    (head : (s.queues.get g).entries = e :: rest) :
    BusItems (meetBarriers g e.seq (s.setQueue g { s.queues.get g with entries := rest, retired := e.seq })) := by
  have segment (x : StreamSlot) : (x.meet g e.seq).segment = x.segment := by
    unfold StreamSlot.meet
    split <;> rfl
  have pending (x : StreamSlot) : (x.meet g e.seq).refill.isSome = x.refill.isSome := by
    unfold StreamSlot.meet
    split
    · exact Option.isSome_map
    · rfl
  have up : (s.engines.get g).state ≠ .faulted := fun faulted =>
    List.cons_ne_nil e rest (head.symm.trans (h.quiet g faulted).1)
  exact {
    entries := forall_mapAll (p := fun i (e : DttEntry) => e.OnBusOk s.engines i) fun i => (h.entries i).meet g _
    slots := forall_mapAll (p := fun i (x : StreamSlot) => x.OnBusOk s.engines i) fun i => (h.slots i).meet g _
    order := fun k => orderOk_mapAll segment pending (h.order k)
    quiet := (h.setQueue g fun faulted => absurd faulted up).quiet }

theorem Part.busItems {g : Segment} (part : Part g s t) (h : BusItems s) : BusItems t := by
  cases part with
  | work w => exact w.busItems h
  | idle off => exact engineIdle_busItems h (off (busOk_iff.2 h).1)
  | retire e rest head => exact retire_busItems h head
  | stay e rest progress backoff head =>
    exact h.setQueue g fun faulted => absurd (head.symm.trans (h.quiet g faulted).1) (List.cons_ne_nil e rest)
  | ready i o data progress backoff _ => exact h.setEntry i (DttEntry.onBusOk_of_off (.inr rfl))
  | partly i data progress backoff issued =>
    exact h.setEntry i ⟨by simp, fun faulted => absurd issued ((h.entries i).2 faulted).2.1⟩
  | forget i _ => exact h.setEntry i (DttEntry.onBusOk_of_off (.inl rfl))
  | refilled i held filling =>
    exact h.setSlot i (StreamSlot.onBusOk_holding rfl rfl ((h.slots i).up (ne_of_eq_of_ne filling (by decide))))
      fun _ => rfl
  | refillLater i p held progress backoff filling _ =>
    exact h.setSlot i (StreamSlot.onBusOk_filling filling rfl rfl
      ((h.slots i).up (ne_of_eq_of_ne filling (by decide)))) fun _ => rfl
  | clear i _ =>
    exact h.setSlot i (StreamSlot.onBusOk_cleared _ i) fun pending => (Bool.false_ne_true pending).elim
  | _ => exact { h with }

/-! ### The events of a segment (R80, R51, R114, R128, R129, R144) -/

/-- An engine of an ENABLED segment begins a cycle. -/
theorem BusItems.grant {g : Segment} {e : Engine} (h : BusItems s) (idle : (s.engine g).cycle = none)
    (enabled : e.state = .enabled) : BusItems (s.setEngine g e) :=
  h.setEngine g (fun _ carries => (Engine.not_carriesItem idle carries).elim) fun faulted => by
    rw [enabled] at faulted
    contradiction

/-- A cycle goes on with the same item. -/
theorem BusItems.goOn {g : Segment} {c d : Cycle} (h : BusItems s) (cycle : (s.engine g).cycle = some c)
    (same : d.item = c.item) : BusItems (startCycle g d s) :=
  h.setEngine g (fun _ carries => (Engine.carriesItem_of_cycle rfl).2
    (same.trans ((Engine.carriesItem_of_cycle cycle).1 carries))) fun faulted => by
      have idle := (h.quiet g faulted).2
      rw [State.engine] at cycle
      rw [cycle] at idle
      contradiction

theorem segmentDown_busItems (g : Segment) (h : BusItems s) : BusItems (faultEntries g s) := by
  refine { h with entries := forall_mapAll (p := fun i (e : DttEntry) => e.OnBusOk s.engines i) fun i => ?_ }
  split
  · exact DttEntry.onBusOk_of_off (.inr rfl)
  · exact h.entries i

theorem faulted_busItems {g : Segment} (h : BusItems s) (idle : (s.engine g).cycle = none)
    (empty : (s.queues.get g).entries = [])
    (waits : ∀ i : EntryIndex, s.dtt[i].segment = g → s.dtt[i].state ≠ .queued ∧ s.dtt[i].state ≠ .partly)
    (slots : ∀ i : SlotIndex, s.slots[i].segment = g → s.slots[i].state = .empty ∨ s.slots[i].state = .retiring) :
    BusItems (s.setEngine g { s.engine g with state := .faulted }) := by
  have carries (k : Segment) (item : WorkItem) : (s.engines.get k).CarriesItem item →
      ((s.setEngine g { s.engine g with state := .faulted }).engines.get k).CarriesItem item :=
    PerSegment.forall_set (p := fun k (e : Engine) => (s.engines.get k).CarriesItem item → e.CarriesItem item)
      (x := { s.engine g with state := .faulted }) (fun _ => id) id k
  have state (k : Segment) (other : k ≠ g) :
      ((s.setEngine g { s.engine g with state := .faulted }).engines.get k).state = (s.engines.get k).state :=
    congrArg Engine.state (PerSegment.get_set_ne _ _ other)
  refine { h with entries := fun i => ⟨fun busy => carries _ _ ((h.entries i).1 busy), fun faulted => ?_⟩,
                  slots := fun i => ⟨fun busy => carries _ _ ((h.slots i).1 busy), (h.slots i).2.1, fun faulted => ?_⟩,
                  quiet := fun k faulted => ?_ }
  · by_cases own : s.dtt[i].segment = g
    · refine ⟨(waits i own).1, fun issued => ?_, (waits i own).2⟩
      exact Engine.not_carriesItem idle (own ▸ (h.entries i).1 (.inl issued))
    · exact (h.entries i).2 ((state _ own).symm.trans faulted)
  · by_cases own : s.slots[i].segment = g
    · exact (slots i own).resolve_right fun retiring =>
        Engine.not_carriesItem idle (own ▸ (h.slots i).1 (.inl retiring))
    · exact (h.slots i).2.2 ((state _ own).symm.trans faulted)
  · by_cases own : k = g
    · rw [own]
      exact ⟨empty, (congrArg Engine.cycle (PerSegment.get_set_self _ g _)).trans idle⟩
    · obtain ⟨queue, cycle⟩ := h.quiet k ((state k own).symm.trans faulted)
      exact ⟨queue, (congrArg Engine.cycle (PerSegment.get_set_ne _ _ own)).trans cycle⟩

theorem passWord_item (c : Cycle) (w : Word) (parity : BitVec 4) (now : Time) :
    (c.passWord w parity now).item = c.item := by
  unfold Cycle.passWord
  split <;> rfl

theorem grantF_busItems {g : Segment} {i : EntryIndex} (h : BusItems s) (idle : (s.engine g).cycle = none)
    (enabled : (s.engine g).state = .enabled) (grantable : s.dtt[i].grantable g = true) :
    BusItems ((s.setEntry i { s.dtt[i] with state := .issued }).setEngine g
      { s.engine g with lastWF := .f, cycle := some (s.dtt[i].cycle i s g) }) := by
  have granted := BusItems.grant (e := { s.engine g with lastWF := .f, cycle := some (s.dtt[i].cycle i s g) }) h idle
    enabled
  have own : s.dtt[i].segment = g := by
    simp only [DttEntry.grantable, Bool.and_eq_true, decide_eq_true_eq] at grantable
    exact grantable.1
  refine { granted.setEntry i (e := { s.dtt[i] with state := .issued }) ⟨fun _ => ?_, fun faulted => ?_⟩ with }
  · dsimp only [State.setEngine]
    rw [own, PerSegment.get_set_self]
    exact (Engine.carriesItem_of_cycle rfl).2 rfl
  · dsimp only [State.setEngine] at faulted
    rw [own, PerSegment.get_set_self, enabled] at faulted
    contradiction

theorem grantR_busItems {g : Segment} {i : SlotIndex} {r : PendingRefill} (h : BusItems s)
    (idle : (s.engine g).cycle = none) (enabled : (s.engine g).state = .enabled) (listed : i ∈ s.refillOrder.get g)
    (pending : s.slots[i].refill = some r) :
    BusItems ((s.setSlot i { s.slots[i] with refill := some { r with inCycle := true } }).setEngine g
      { s.engine g with cycle := some (r.cycle i s g) }) := by
  have granted := BusItems.grant (e := { s.engine g with cycle := some (r.cycle i s g) }) h idle enabled
  have own : s.slots[i].segment = g := (h.order g i listed).1
  refine { granted.setSlot i (x := { s.slots[i] with refill := some { r with inCycle := true } })
    ⟨fun _ => ?_, ?_, fun faulted => ?_⟩ fun _ => rfl with }
  · dsimp only [State.setEngine]
    rw [own, PerSegment.get_set_self]
    exact (Engine.carriesItem_of_cycle rfl).2 rfl
  · have states := (h.slots i).2.1
    rw [pending] at states
    exact states
  · dsimp only [State.setEngine] at faulted
    rw [own, PerSegment.get_set_self, enabled] at faulted
    contradiction

theorem Event.busItems (event : Event s t) (h : BusItems s) : BusItems t := by
  cases event with
  | powerOn => exact { busItems_reset with }
  | leave n _ =>
    rw [leaveLane_fields]
    exact { h with }
  | grantW g e idle enabled _ => exact h.grant idle enabled
  | grantF g i idle enabled grantable => exact grantF_busItems h idle enabled grantable
  | grantR g i r idle enabled listed _ pending => exact grantR_busItems h idle enabled listed pending
  | claim g c cycle => exact h.goOn cycle rfl
  | word g c w parity cycle _ => exact h.goOn cycle (passWord_item c w parity s.timebase)
  | segmentDown g => exact segmentDown_busItems g h
  | faulted g idle empty waits slots => exact faulted_busItems h idle empty waits slots
  | _ => exact { h with }

end

/-- Settles O9: an item is marked as on the bus with its grant and unmarked before its engine becomes IDLE, and nothing
is placed on a FAULTED segment. -/
theorem faultedSegmentQuietKept : Obligations.FaultedSegmentQuietKept :=
  keptByStep_of_parts (fun _ _ h => h) (fun _ h => h)
    (fun _ _ _ part h => busOk_iff.2 (part.busItems (busOk_iff.1 h)))
    fun _ _ event h => busOk_iff.2 (event.busItems (busOk_iff.1 h))

end Sys2Proof.Machine
end

section
/-! What every step keeps, eighth part: a cycle carries the remainder of its item, and an item holds the words that have
passed (R40, R51, R53, R106, R113 to R115, R129, R137, R138). -/

namespace Sys2Proof.Machine

/-! ### Items and the cycles that carry them -/

/-- The cycle c of segment g carries the remainder of the entry e, which is marked as on the bus (R51, R137). -/
structure DttEntry.Carried (c : Cycle) (g : Segment) (e : DttEntry) : Prop where
  segment : e.segment = g
  marked : e.state = .issued ∨ e.state = .abandoned
  words : c.words = e.words - e.progress
  kind : c.kind = .read ↔ e.kind = .read

/-- The cycle c of segment g carries the remainder of the refill of the slot x, which is marked as in it (R114, R137). -/
structure StreamSlot.Carried (c : Cycle) (g : Segment) (x : StreamSlot) : Prop where
  segment : x.segment = g
  marked : x.state = .filling ∨ x.state = .retiring
  kind : c.kind = .read
  words : ∃ r ∈ x.refill, r.inCycle = true ∧ c.words = r.words - r.progress

/-- What TransfersOk says of a cycle's item. -/
abbrev Cycle.ItemOk (c : Cycle) (g : Segment) (s : State) : Prop :=
  (∀ i, c.item = .dttEntry i → s.dtt[i].Carried c g) ∧ ∀ i, c.item = .streamSlot i → s.slots[i].Carried c g

theorem DttEntry.carried_iff {c : Cycle} {g : Segment} {e : DttEntry} :
    (decide (e.segment = g) && (decide (e.state = .issued) || decide (e.state = .abandoned)) &&
      decide (c.words = e.words - e.progress) && decide (c.kind = .read) == decide (e.kind = .read)) = true ↔
      e.Carried c g := by
  simp only [Bool.and_eq_true, Bool.or_eq_true, beq_iff_eq, decide_eq_true_eq, decide_eq_decide]
  constructor
  · rintro ⟨⟨⟨segment, marked⟩, words⟩, kind⟩
    exact ⟨segment, marked, words, kind⟩
  · rintro ⟨segment, marked, words, kind⟩
    exact ⟨⟨⟨segment, marked⟩, words⟩, kind⟩

theorem StreamSlot.carried_iff {c : Cycle} {g : Segment} {x : StreamSlot} :
    (decide (x.segment = g) && (decide (x.state = .filling) || decide (x.state = .retiring)) && decide (c.kind = .read) &&
      x.refill.any fun r => r.inCycle && decide (c.words = r.words - r.progress)) = true ↔ x.Carried c g := by
  simp only [Bool.and_eq_true, Bool.or_eq_true, decide_eq_true_eq, Option.any_eq_true]
  constructor
  · rintro ⟨⟨⟨segment, marked⟩, kind⟩, words⟩
    exact ⟨segment, marked, kind, words⟩
  · rintro ⟨segment, marked, kind, words⟩
    exact ⟨⟨⟨segment, marked⟩, kind⟩, words⟩

theorem Cycle.itemOk_iff {c : Cycle} {g : Segment} {s : State} : c.itemOk g s = true ↔ c.ItemOk g s := by
  unfold Cycle.itemOk
  cases item : c.item with
  | queueEntry seq =>
    exact ⟨fun _ => ⟨fun _ h => (nomatch item.symm.trans h), fun _ h => (nomatch item.symm.trans h)⟩, fun _ => rfl⟩
  | dttEntry i =>
    rw [DttEntry.carried_iff]
    refine ⟨fun carried => ⟨fun j h => ?_, fun _ h => (nomatch item.symm.trans h)⟩, fun h => h.1 i item⟩
    obtain rfl := WorkItem.dttEntry.inj (item.symm.trans h)
    exact carried
  | streamSlot i =>
    rw [StreamSlot.carried_iff]
    refine ⟨fun carried => ⟨fun _ h => (nomatch item.symm.trans h), fun j h => ?_⟩, fun h => h.2 i item⟩
    obtain rfl := WorkItem.streamSlot.inj (item.symm.trans h)
    exact carried

theorem Cycle.countsOk_iff {c : Cycle} :
    c.countsOk = true ↔ c.passed ≤ c.words ∧ (c.kind = .write ∨ c.readData.length = c.passed) := by
  simp only [Cycle.countsOk, Bool.and_eq_true, Bool.or_eq_true, decide_eq_true_eq]

/-- What TransfersOk says, by the item and by the segment. -/
structure TransferItems (s : State) : Prop where
  cycles : ∀ g : Segment, ∀ c ∈ (s.engines.get g).cycle, c.countsOk = true ∧ c.ItemOk g s
  entries : ∀ i : EntryIndex, s.dtt[i].dataOk = true
  slots : ∀ i : SlotIndex, s.slots[i].dataOk = true
  order : ∀ g : Segment, ∀ i ∈ s.refillOrder.get g, s.slots[i].segment = g

theorem transfersOk_iff {s : State} : TransfersOk s ↔ TransferItems s := by
  constructor
  · rintro ⟨a, b, entries, slots, orderA, orderB⟩
    refine ⟨fun g c busy => ?_, entries, slots, fun g => ?_⟩
    · cases g with
      | a => exact (a c busy).imp_right Cycle.itemOk_iff.1
      | b => exact (b c busy).imp_right Cycle.itemOk_iff.1
    · cases g
      exacts [orderA, orderB]
  · rintro ⟨cycles, entries, slots, order⟩
    exact ⟨fun c busy => (cycles .a c busy).imp_right Cycle.itemOk_iff.2,
      fun c busy => (cycles .b c busy).imp_right Cycle.itemOk_iff.2, entries, slots, order .a, order .b⟩

/-! ### What an item holds (R40, R106, R113) -/

theorem DttEntry.dataOk_waits {e : DttEntry} (h : e.state = .queued ∨ e.state = .issued ∨ e.state = .partly) :
    e.dataOk = true ↔ e.progress < e.words ∧ (e.kind = .ackedWrite ∨ e.readData.length = e.progress) := by
  unfold DttEntry.dataOk
  rcases h with h | h | h
  all_goals
    rw [h]
    simp only [Bool.and_eq_true, Bool.or_eq_true, decide_eq_true_eq]

theorem DttEntry.dataOk_ready {e : DttEntry} (h : e.state = .ready) :
    e.dataOk = true ↔ e.kind = .ackedWrite ∨ e.outcome ≠ .success ∨ e.readData.length = e.words := by
  unfold DttEntry.dataOk
  rw [h]
  simp only [Bool.or_eq_true, decide_eq_true_eq, or_assoc]

theorem DttEntry.dataOk_off {e : DttEntry} (h : e.state = .free ∨ e.state = .abandoned) : e.dataOk = true := by
  unfold DttEntry.dataOk
  rcases h with h | h
  all_goals rw [h]

theorem StreamSlot.dataOk_holding {x : StreamSlot} (h : x.state = .holding) :
    x.dataOk = true ↔ x.held.length ≤ 31 := by
  unfold StreamSlot.dataOk
  rw [h]
  exact decide_eq_true_iff

theorem StreamSlot.dataOk_filling {x : StreamSlot} (h : x.state = .filling) : x.dataOk = true ↔
    ∀ r ∈ x.refill, r.progress ≤ r.words ∧ r.words ≤ 16 ∧ x.held.length ≤ 15 + r.progress := by
  unfold StreamSlot.dataOk
  rw [h]
  simp only [Option.all_eq_true, Bool.and_eq_true, decide_eq_true_eq, and_assoc, Option.mem_def]

theorem StreamSlot.dataOk_off {x : StreamSlot} (h : x.state = .empty ∨ x.state = .retiring) : x.dataOk = true := by
  unfold StreamSlot.dataOk
  rcases h with h | h
  all_goals rw [h]

/-- A slot that holds no more words for refills as far along. -/
theorem StreamSlot.dataOk_of_data {x y : StreamSlot} (state : y.state = x.state) (held : y.held.length ≤ x.held.length)
    (refill : ∀ r ∈ y.refill, ∃ d ∈ x.refill, r.words = d.words ∧ r.progress = d.progress) (data : x.dataOk = true) :
    y.dataOk = true := by
  cases before : x.state with
  | empty => exact StreamSlot.dataOk_off (.inl (state.trans before))
  | retiring => exact StreamSlot.dataOk_off (.inr (state.trans before))
  | holding =>
    exact (StreamSlot.dataOk_holding (state.trans before)).2 (held.trans ((StreamSlot.dataOk_holding before).1 data))
  | filling =>
    refine (StreamSlot.dataOk_filling (state.trans before)).2 fun r pending => ?_
    obtain ⟨d, pending', all, done⟩ := refill r pending
    rw [all, done]
    exact ((StreamSlot.dataOk_filling before).1 data d pending').imp_right (And.imp_right held.trans)

/-! ### Items that change -/

/-- An entry f may stand for the entry e: a cycle that carries e carries f, and f holds its words if e does. -/
structure DttEntry.Transfers (e f : DttEntry) : Prop where
  carried : ∀ c g, e.Carried c g → f.Carried c g
  data : e.dataOk = true → f.dataOk = true

structure StreamSlot.Transfers (x y : StreamSlot) : Prop where
  carried : ∀ c g, x.Carried c g → y.Carried c g
  data : x.dataOk = true → y.dataOk = true

theorem DttEntry.transfers_refl (e : DttEntry) : e.Transfers e := ⟨fun _ _ => id, id⟩

theorem StreamSlot.transfers_refl (x : StreamSlot) : x.Transfers x := ⟨fun _ _ => id, id⟩

/-- An entry that is not marked as on the bus may become any other. -/
theorem DttEntry.transfers_of_off {e f : DttEntry} (off : e.state ≠ .issued ∧ e.state ≠ .abandoned)
    (data : e.dataOk = true → f.dataOk = true) : e.Transfers f :=
  ⟨fun _ _ carried => (carried.marked.elim off.1 off.2).elim, data⟩

/-- A slot that is neither RETIRING nor FILLING with its refill in a cycle may become any other. -/
theorem StreamSlot.transfers_of_off {x y : StreamSlot} (off : x.OffBus) (data : x.dataOk = true → y.dataOk = true) :
    x.Transfers y := by
  refine ⟨fun c g carried => ?_, data⟩
  obtain ⟨r, pending, busy, -⟩ := carried.words
  rcases carried.marked with filling | retiring
  · exact (off.2 ⟨filling, by rw [StreamSlot.inCycle, Option.mem_def.1 pending]; exact busy⟩).elim
  · exact (off.1 retiring).elim

theorem DttEntry.transfers_barrier (e : DttEntry) (b : Barrier) : e.Transfers { e with barrier := b } :=
  ⟨fun _ _ h => ⟨h.segment, h.marked, h.words, h.kind⟩, id⟩

theorem DttEntry.transfers_meet (e : DttEntry) (g : Segment) (b : Seq) : e.Transfers (e.meet g b) := by
  unfold DttEntry.meet
  split
  · exact e.transfers_barrier _
  · exact e.transfers_refl

theorem DttEntry.transfers_meetAll (e : DttEntry) (g : Segment) (es : List QueueEntry) : e.Transfers (e.meetAll g es) := by
  unfold DttEntry.meetAll
  split
  · exact e.transfers_barrier _
  · exact e.transfers_refl

theorem DttEntry.transfers_release (e : DttEntry) : e.Transfers e.release := by
  rcases e.release_cases with ⟨same, -⟩ | ⟨cleared, waits⟩ | ⟨abandoned, -⟩
  · rw [same]
    exact e.transfers_refl
  · rw [cleared]
    refine DttEntry.transfers_of_off ?_ fun _ => DttEntry.dataOk_off (.inl rfl)
    rcases waits with h | h | h
    all_goals exact ⟨ne_of_eq_of_ne h (by decide), ne_of_eq_of_ne h (by decide)⟩
  · rw [abandoned]
    exact ⟨fun _ _ h => ⟨h.segment, .inr rfl, h.words, h.kind⟩, fun _ => DttEntry.dataOk_off (.inr rfl)⟩

theorem DttEntry.transfers_commit (e : DttEntry) : e.Transfers e.commit := by
  unfold DttEntry.commit
  split
  · exact e.transfers_refl
  · rename_i queued
    exact DttEntry.transfers_of_off ⟨ne_of_eq_of_ne queued (by decide), ne_of_eq_of_ne queued (by decide)⟩
      fun _ => DttEntry.dataOk_off (.inl rfl)
  all_goals exact ⟨fun _ _ h => ⟨h.segment, h.marked, h.words, h.kind⟩, id⟩

/-- A change of the pending refill's barrier. -/
theorem StreamSlot.transfers_mapRefill (x : StreamSlot) {f : PendingRefill → PendingRefill}
    (same : ∀ r, (f r).inCycle = r.inCycle ∧ (f r).words = r.words ∧ (f r).progress = r.progress) :
    x.Transfers { x with refill := x.refill.map f } := by
  refine ⟨fun c g h => ⟨h.segment, h.marked, h.kind, ?_⟩, fun data => ?_⟩
  · obtain ⟨r, pending, busy, words⟩ := h.words
    obtain ⟨inCycle, all, done⟩ := same r
    exact ⟨f r, Option.map_eq_some_iff.2 ⟨r, pending, rfl⟩, inCycle.trans busy, by rw [all, done, words]⟩
  · refine StreamSlot.dataOk_of_data (x := x) rfl (Nat.le_refl _) (fun r pending => ?_) data
    obtain ⟨d, before, rfl⟩ := Option.map_eq_some_iff.1 pending
    exact ⟨d, before, (same d).2⟩

theorem StreamSlot.transfers_meet (x : StreamSlot) (g : Segment) (b : Seq) : x.Transfers (x.meet g b) := by
  unfold StreamSlot.meet
  split
  · exact x.transfers_mapRefill fun _ => ⟨rfl, rfl, rfl⟩
  · exact x.transfers_refl

theorem StreamSlot.transfers_meetAll (x : StreamSlot) (g : Segment) (es : List QueueEntry) :
    x.Transfers (x.meetAll g es) := by
  unfold StreamSlot.meetAll
  split
  · exact x.transfers_mapRefill fun _ => ⟨rfl, rfl, rfl⟩
  · exact x.transfers_refl

theorem StreamSlot.transfers_drop (x : StreamSlot) : x.Transfers x.drop := by
  rcases x.drop_cases with ⟨same, -⟩ | ⟨cleared, off⟩ | ⟨retired, -⟩
  · rw [same]
    exact x.transfers_refl
  · rw [cleared]
    refine StreamSlot.transfers_of_off ?_ fun _ => StreamSlot.dataOk_off (.inl rfl)
    rcases off with holding | ⟨filling, idle⟩
    · exact StreamSlot.offBus_of_state holding (by decide) (.inl (by decide))
    · exact StreamSlot.offBus_of_state filling (by decide) (.inr idle)
  · rw [retired]
    exact ⟨fun _ _ h => ⟨h.segment, .inr rfl, h.kind, h.words⟩, fun _ => StreamSlot.dataOk_off (.inr rfl)⟩

theorem StreamSlot.transfers_serve (x : StreamSlot) (w : Nat) (now idle : Time) : x.Transfers (x.serve w now idle) :=
  ⟨fun _ _ h => ⟨h.segment, h.marked, h.kind, h.words⟩, fun data => StreamSlot.dataOk_of_data (x := x) rfl
    (by simp [StreamSlot.serve]) (fun r pending => ⟨r, pending, rfl, rfl⟩) data⟩

/-- A refill fetches at most 16 words behind at most 15 (R113). -/
theorem StreamSlot.transfers_withRefill {x : StreamSlot} (wants : x.wantsRefill = true) (b : Barrier) :
    x.Transfers (x.withRefill b) := by
  simp only [StreamSlot.wantsRefill, Bool.and_eq_true, decide_eq_true_eq, and_assoc] at wants
  obtain ⟨holding, few, -⟩ := wants
  refine StreamSlot.transfers_of_off (StreamSlot.offBus_of_state holding (by decide) (.inl (by decide))) fun _ =>
    (StreamSlot.dataOk_filling rfl).2 fun r pending => ?_
  obtain rfl := Option.some.inj pending
  have clipped : x.refillWords ≤ (64 - blockOffset x.refillAddress) / 4 := Nat.min_le_left _ _
  exact ⟨Nat.zero_le _, show x.refillWords ≤ 16 by omega, show x.held.length ≤ 15 + 0 from Nat.le_of_lt_succ few⟩

theorem KeptOrDropped.transfers {u v : Vector StreamSlot 4} (dropped : KeptOrDropped u v) (i : SlotIndex) :
    u[i].Transfers v[i] := by
  rcases dropped i with same | gone
  · exact (congrArg u[i].Transfers same).mpr u[i].transfers_refl
  · exact (congrArg u[i].Transfers gone).mpr u[i].transfers_drop

end Sys2Proof.Machine
end

section
/-! The remainders that the cycles carry, change by change; and the invariant of the whole part at reset. -/

namespace Sys2Proof.Machine

/-! ### The changes of a handling -/

section
variable {s t : State}

/-- No cycle begins, every item stands for what it was, and the request orders are in order. -/
theorem TransferItems.of_transfers (h : TransferItems s)
    (cycles : ∀ g : Segment, ∀ c ∈ (t.engines.get g).cycle, c ∈ (s.engines.get g).cycle)
    (entries : ∀ i : EntryIndex, s.dtt[i].Transfers t.dtt[i]) (slots : ∀ i : SlotIndex, s.slots[i].Transfers t.slots[i])
    (order : ∀ g : Segment, ∀ i ∈ t.refillOrder.get g, t.slots[i].segment = g) : TransferItems t := by
  refine ⟨fun g c busy => ?_, fun i => (entries i).data (h.entries i), fun i => (slots i).data (h.slots i), order⟩
  obtain ⟨counts, dtt, refills⟩ := h.cycles g c (cycles g c busy)
  exact ⟨counts, fun i item => (entries i).carried c g (dtt i item), fun i item => (slots i).carried c g (refills i item)⟩

theorem TransferItems.setEntries (h : TransferItems s) {v : Vector DttEntry 16}
    (entries : ∀ i : EntryIndex, s.dtt[i].Transfers v[i]) : TransferItems { s with dtt := v } :=
  h.of_transfers (fun _ _ => id) entries (fun i => s.slots[i].transfers_refl) h.order

theorem TransferItems.setEntry (h : TransferItems s) (i : EntryIndex) {e : DttEntry} (he : s.dtt[i].Transfers e) :
    TransferItems (s.setEntry i e) :=
  h.setEntries (forall_set (p := fun i e => s.dtt[i].Transfers e) (fun i => s.dtt[i].transfers_refl) he)

theorem TransferItems.setSlots (h : TransferItems s) {v : Vector StreamSlot 4}
    (slots : ∀ i : SlotIndex, s.slots[i].Transfers v[i])
    (segment : ∀ i : SlotIndex, v[i].refill.isSome = true → v[i].segment = s.slots[i].segment) :
    TransferItems (s.setSlots v) := by
  refine h.of_transfers (fun _ _ => id) (fun i => s.dtt[i].transfers_refl) slots fun g i listed => ?_
  have filtered : (s.setSlots v).refillOrder.get g = (s.refillOrder.get g).filter fun i => v[i].refill.isSome :=
    PerSegment.get_map _ s.refillOrder g
  rw [filtered, List.mem_filter] at listed
  exact (segment i listed.2).trans (h.order g i listed.1)

theorem TransferItems.setSlot (h : TransferItems s) (i : SlotIndex) {x : StreamSlot} (hx : s.slots[i].Transfers x)
    (segment : x.refill.isSome = true → x.segment = s.slots[i].segment) : TransferItems (s.setSlot i x) :=
  h.setSlots (forall_set (p := fun i x => s.slots[i].Transfers x) (fun i => s.slots[i].transfers_refl) hx)
    (forall_set (p := fun i (x : StreamSlot) => x.refill.isSome = true → x.segment = s.slots[i].segment)
      (fun _ _ => rfl) segment)

/-- The barriers of entries and slots change, and the queues, but no cycle begins. -/
theorem TransferItems.of_mapAll (h : TransferItems s) {f : DttEntry → DttEntry} {k : StreamSlot → StreamSlot}
    (cycles : ∀ g : Segment, ∀ c ∈ (t.engines.get g).cycle, c ∈ (s.engines.get g).cycle)
    (entries : ∀ e : DttEntry, e.Transfers (f e)) (slots : ∀ x : StreamSlot, x.Transfers (k x))
    (segment : ∀ x : StreamSlot, (k x).segment = x.segment)
    (dtt : t.dtt = mapAll f s.dtt) (slots' : t.slots = mapAll k s.slots) (order : t.refillOrder = s.refillOrder) :
    TransferItems t := by
  refine h.of_transfers cycles (fun i => ?_) (fun i => ?_) fun g i listed => ?_
  · rw [dtt, mapAll_table]
    exact entries _
  · rw [slots', mapAll_table]
    exact slots _
  · rw [order] at listed
    rw [slots', mapAll_table, segment]
    exact h.order g i listed

theorem discard_transferItems (g : Segment) (c : Cause) (h : TransferItems s) :
    TransferItems (discardQueue g c s).1 := by
  rw [discardQueue_fields]
  exact h.of_mapAll (fun _ _ => id) (fun e => e.transfers_meetAll g _) (fun x => x.transfers_meetAll g _)
    (fun x => x.meetAll_segment g _) rfl rfl rfl

/-- The slot that allocation may write is in no cycle. -/
theorem offBus_of_replaceable {x : StreamSlot} (h : x.replaceable) : x.OffBus := by
  rcases h with empty | holding | ⟨filling, idle⟩
  · exact StreamSlot.offBus_of_state empty (by decide) (.inl (by decide))
  · exact StreamSlot.offBus_of_state holding (by decide) (.inl (by decide))
  · exact StreamSlot.offBus_of_state filling (by decide) (.inr idle)

theorem newSlot_dataOk (o : Owner) (k : WindowIndex) (g : Segment) (next : Word) (s : State) :
    (newSlot o k g next s).dataOk = true := (StreamSlot.dataOk_holding rfl).2 (by simp [newSlot])

theorem fill_transferItems {o : Owner} {k : WindowIndex} {g : Segment} {next : Word} {i : SlotIndex}
    {v : Vector StreamSlot 4} (h : TransferItems s) (dropped : KeptOrDropped s.slots v) (free : v[i].replaceable) :
    TransferItems (s.setSlots (v.set i (newSlot o k g next s))) := by
  refine h.setSlots ?_ ?_
  · refine forall_set (p := fun i x => s.slots[i].Transfers x) dropped.transfers
      ⟨fun c j carried => ?_, fun _ => newSlot_dataOk o k g next s⟩
    have off := StreamSlot.transfers_of_off (y := newSlot o k g next s) (offBus_of_replaceable free) fun _ =>
      newSlot_dataOk o k g next s
    exact off.carried c j ((dropped.transfers i).carried c j carried)
  · exact forall_set (p := fun i (x : StreamSlot) => x.refill.isSome = true → x.segment = s.slots[i].segment)
      (fun _ => dropped.segment) fun pending => (Bool.false_ne_true pending).elim

theorem newEntry_dataOk {o : Owner} {kind : EntryKind} {a : Word} {w : Nat} {ws : List WriteWord} {k : WindowIndex}
    (some : 1 ≤ w) : (newEntry o kind a w ws k s).dataOk = true :=
  (DttEntry.dataOk_waits (.inl rfl)).2 ⟨some, .inr rfl⟩

theorem refill_transferItems {i : SlotIndex} (h : TransferItems s) (wants : s.slots[i].wantsRefill = true) :
    let x := s.slots[i].withRefill (s.queues.get s.slots[i].segment).tailBarrier
    let p := keptOrder (s.slots.set i x) s.refillOrder
    TransferItems { s.setSlot i x with
      refillOrder := p.set s.slots[i].segment (p.get s.slots[i].segment ++ [i]) } := by
  intro x p
  have filled : TransferItems (s.setSlot i x) := h.setSlot i (StreamSlot.transfers_withRefill wants _) fun _ => rfl
  refine ⟨filled.cycles, filled.entries, filled.slots, ?_⟩
  refine PerSegment.forall_set
    (p := fun g (l : List SlotIndex) => ∀ j ∈ l, (s.slots.set i x)[j].segment = g) filled.order fun j listed => ?_
  rcases List.mem_append.1 listed with before | new
  · exact filled.order _ j before
  · obtain rfl := List.mem_singleton.1 new
    rw [table_set_self]
    rfl

theorem Work.transferItems (w : Work s t) (h : TransferItems s) : TransferItems t := by
  cases w with
  | drop v dropped => exact h.setSlots dropped.transfers fun _ => dropped.segment
  | release v released =>
    refine h.setEntries fun i => ?_
    rcases released i with same | gone
    · exact (congrArg s.dtt[i].Transfers same).mpr s.dtt[i].transfers_refl
    · exact (congrArg s.dtt[i].Transfers gone).mpr s.dtt[i].transfers_release
  | serve i w => exact h.setSlot i (s.slots[i].transfers_serve w _ _) fun _ => rfl
  | refill i wants => exact refill_transferItems h wants
  | fill j o i v _ _ _ _ _ dropped free _ => exact fill_transferItems h dropped free
  | create i o kind a w ws k free _ _ placed =>
    have created := h.setEntry i (e := newEntry o kind a w ws k s)
      (DttEntry.transfers_of_off ⟨ne_of_eq_of_ne free (by decide), ne_of_eq_of_ne free (by decide)⟩
        fun _ => newEntry_dataOk (spanOk_iff.1 placed.1).1)
    exact { created with }
  | commit =>
    have committed := h.setEntries (forall_mapAll (p := fun i e => s.dtt[i].Transfers e) (f := DttEntry.commit)
      fun i => s.dtt[i].transfers_commit)
    exact { committed with }
  | mark g x count _ _ =>
    exact h.of_transfers (PerSegment.forall_set
      (p := fun k (e : Engine) => ∀ c ∈ e.cycle, c ∈ (s.engines.get k).cycle) (fun _ _ => id) fun _ => id)
      (fun i => s.dtt[i].transfers_refl) (fun i => s.slots[i].transfers_refl) h.order
  | discard g c => exact discard_transferItems g c h
  | _ => exact { h with }

/-! ### The end of a cycle (R52, R81, R115, R138) -/

theorem engineIdle_cycles (g k : Segment) (s : State) :
    ∀ c ∈ ((engineIdle g s).engines.get k).cycle, k ≠ g ∧ c ∈ (s.engines.get k).cycle := by
  intro c busy
  by_cases same : k = g
  · rw [same, engineIdle, State.setEngine, PerSegment.get_set_self] at busy
    cases busy
  · rw [engineIdle, State.setEngine, PerSegment.get_set_ne _ _ same] at busy
    exact ⟨same, busy⟩

theorem engineIdle_transferItems (g : Segment) (h : TransferItems s) : TransferItems (engineIdle g s) :=
  h.of_transfers (fun k c busy => (engineIdle_cycles g k s c busy).2) (fun i => s.dtt[i].transfers_refl)
    (fun i => s.slots[i].transfers_refl) h.order

/-- With the engine of its segment IDLE no cycle carries an entry. -/
theorem transfers_of_idle_entry {g : Segment} {i : EntryIndex} (h : TransferItems s) (own : s.dtt[i].segment = g)
    {e : DttEntry} (data : e.dataOk = true) : TransferItems (engineIdle g (s.setEntry i e)) := by
  refine ⟨fun k c busy => ?_, forall_set (p := fun _ (e : DttEntry) => e.dataOk = true) h.entries data, h.slots, h.order⟩
  obtain ⟨other, before⟩ := engineIdle_cycles g k s c busy
  obtain ⟨counts, entries, slots⟩ := h.cycles k c before
  refine ⟨counts, fun j item => ?_, slots⟩
  have carried := entries j item
  have apart : i ≠ j := by
    rintro rfl
    exact other (carried.segment.symm.trans own)
  exact (congrArg (DttEntry.Carried c k) (table_set_ne s.dtt e apart)).mpr carried

theorem transfers_of_idle_slot {g : Segment} {i : SlotIndex} (h : TransferItems s) (own : s.slots[i].segment = g)
    {x : StreamSlot} (data : x.dataOk = true) (segment : x.refill.isSome = true → x.segment = s.slots[i].segment) :
    TransferItems (engineIdle g (s.setSlot i x)) := by
  have order : ∀ k, ∀ j ∈ (s.setSlot i x).refillOrder.get k, (s.slots.set i x)[j].segment = k := by
    intro k j listed
    have filtered : (s.setSlot i x).refillOrder.get k =
        (s.refillOrder.get k).filter fun j => (s.slots.set i x)[j].refill.isSome := PerSegment.get_map _ s.refillOrder k
    rw [filtered, List.mem_filter] at listed
    exact (forall_set (p := fun j (x : StreamSlot) => x.refill.isSome = true → x.segment = s.slots[j].segment)
      (fun _ _ => rfl) segment j listed.2).trans (h.order k j listed.1)
  refine ⟨fun k c busy => ?_, h.entries, forall_set (p := fun _ (x : StreamSlot) => x.dataOk = true) h.slots data, order⟩
  obtain ⟨other, before⟩ := engineIdle_cycles g k s c busy
  obtain ⟨counts, entries, slots⟩ := h.cycles k c before
  refine ⟨counts, entries, fun j item => ?_⟩
  have carried := slots j item
  have apart : i ≠ j := by
    rintro rfl
    exact other (carried.segment.symm.trans own)
  exact (congrArg (StreamSlot.Carried c k) (table_set_ne s.slots x apart)).mpr carried

theorem setQueue_transferItems (h : TransferItems s) (g : Segment) (q : PostedQueue) : TransferItems (s.setQueue g q) :=
  { h with }

theorem retireHead_transferItems (g : Segment) (h : TransferItems s) : TransferItems (retireHead g s) := by
  rcases retireHead_cases g s with ⟨-, same⟩ | ⟨e, rest, -, retired⟩
  · rwa [same]
  · rw [retired]
    refine h.of_mapAll (fun _ _ => id) (fun d => d.transfers_meet g e.seq) (fun x => x.transfers_meet g e.seq)
      (fun x => ?_) rfl rfl rfl
    unfold StreamSlot.meet
    split <;> rfl

theorem countFailedWrite_transferItems (o : Owner) (h : TransferItems s) : TransferItems (countFailedWrite o s) := by
  rw [countFailedWrite_frame]
  exact { h with }

theorem queueCycleEnd_transferItems (g : Segment) (seq : Seq) (r : CycleResult) (h : TransferItems s) :
    TransferItems (queueCycleEnd g seq r s).1 := by
  rcases queueCycleEnd_cases g seq r s with ignored | ⟨e, rest, -, -, retired | ⟨p, b, stays⟩ | ⟨f, failed⟩⟩
  · rwa [ignored]
  · rw [retired]
    exact retireHead_transferItems g h
  · rw [stays]
    exact setQueue_transferItems h g _
  · rw [failed]
    exact countFailedWrite_transferItems _ (retireHead_transferItems g h)

end

/-! ### The words of a cycle that has ended (R130, R133) -/

section
variable {c : Cycle} {e : Ending}

theorem Cycle.ending_of_done (h : (c.result e).outcome = .done) : e = .done := by
  cases e <;> simp only [Cycle.result, Cycle.outcome] at h
  case done => rfl
  case stop => split at h <;> contradiction
  all_goals contradiction

theorem Cycle.ending_of_stop (h : (c.result e).outcome = .stop) : e = .stop := by
  cases e <;> simp only [Cycle.result, Cycle.outcome] at h
  case stop => rfl
  case done => split at h <;> contradiction
  all_goals contradiction

/-- A cycle DONE has passed all its words. -/
theorem Cycle.words_of_done (ends : c.Ends e) (h : (c.result e).outcome = .done) : c.passed = c.words :=
  ends.1 (Cycle.ending_of_done h)

/-- A cycle stopped reports the words that passed, which are fewer than all. -/
theorem Cycle.words_of_stop (ends : c.Ends e) (counts : c.countsOk = true) (h : (c.result e).outcome = .stop) :
    (c.result e).done = c.passed ∧ c.passed < c.words := by
  obtain rfl := Cycle.ending_of_stop h
  exact ⟨rfl, Nat.lt_of_le_of_ne (Cycle.countsOk_iff.1 counts).1 (ends.2 rfl)⟩

/-- A READ cycle holds the words that passed. -/
theorem Cycle.data_length (counts : c.countsOk = true) (read : c.kind = .read) : c.readData.length = c.passed :=
  (Cycle.countsOk_iff.1 counts).2.resolve_left (ne_of_eq_of_ne read (by decide))

end

end Sys2Proof.Machine
end

section
/-! The remainders that the cycles carry, at the end of a cycle and event by event; and the invariant at reset. -/

namespace Sys2Proof.Machine

/-! ### What an item holds after its cycle (R52, R53, R115) -/

section
variable {c : Cycle} {g : Segment} {e : Ending}

/-- A failed entry holds no words to speak of (R55). -/
theorem DttEntry.dataOk_failed (s : State) (f : FailReason) (x : DttEntry) :
    (x.makeReady s (.failed f)).dataOk = true :=
  (DttEntry.dataOk_ready rfl).2 (.inr (.inl (by simp [DttEntry.makeReady])))

theorem DttEntry.dataOk_endIssued (s : State) {x : DttEntry} (issued : x.state = .issued) (data : x.dataOk = true)
    (carried : x.Carried c g) (counts : c.countsOk = true) (ends : c.Ends e) :
    (x.endIssued s (c.result e)).dataOk = true := by
  obtain ⟨before, held⟩ := (DttEntry.dataOk_waits (.inr (.inl issued))).1 data
  have words := carried.words
  have passed := (Cycle.countsOk_iff.1 counts).1
  have delivered (noWrite : x.kind ≠ .ackedWrite) : x.readData.length = x.progress ∧ c.readData.length = c.passed := by
    refine ⟨held.resolve_left noWrite, Cycle.data_length counts (carried.kind.2 ?_)⟩
    cases kind : x.kind with
    | read => rfl
    | ackedWrite => exact (noWrite kind).elim
  unfold DttEntry.endIssued
  cases outcome : (c.result e).outcome with
  | done =>
    refine (DttEntry.dataOk_ready rfl).2 (or_iff_not_imp_left.2 fun noWrite => .inr ?_)
    obtain ⟨had, got⟩ := delivered noWrite
    have all := Cycle.words_of_done ends outcome
    change (x.readData ++ c.readData).length = x.words
    rw [List.length_append]
    omega
  | stop =>
    obtain ⟨reported, some⟩ := Cycle.words_of_stop ends counts outcome
    refine (DttEntry.dataOk_waits (.inr (.inr rfl))).2
      ⟨show x.progress + (c.result e).done < x.words by omega, or_iff_not_imp_left.2 fun noWrite => ?_⟩
    obtain ⟨had, got⟩ := delivered noWrite
    change (x.readData ++ c.readData).length = x.progress + (c.result e).done
    rw [List.length_append]
    omega
  | backoff =>
    dsimp only
    split
    · exact (DttEntry.dataOk_waits (.inr (.inr rfl))).2 ⟨before, held⟩
    · exact DttEntry.dataOk_failed s _ _
  | noTarget => exact DttEntry.dataOk_failed s _ _
  | timeout => exact DttEntry.dataOk_failed s _ _
  | fault => exact DttEntry.dataOk_failed s _ _
  | parity => exact DttEntry.dataOk_failed s _ _

end

/-! ### The end of a cycle -/

section
variable {s : State} {c : Cycle} {g : Segment} {e : Ending}

theorem entryCycleEnd_transferItems {i : EntryIndex} (h : TransferItems s) (cycle : (s.engine g).cycle = some c)
    (ends : c.Ends e) (item : c.item = .dttEntry i) :
    TransferItems (engineIdle g (entryCycleEnd i (c.result e) s).1) := by
  obtain ⟨counts, carried, -⟩ := h.cycles g c cycle
  have entry := carried i item
  rcases entryCycleEnd_cases i (c.result e) s with ⟨issued, ended⟩ | ⟨-, bs, freed⟩ | ⟨-, -, same⟩
  · rw [ended]
    exact transfers_of_idle_entry h entry.segment (DttEntry.dataOk_endIssued s issued (h.entries i) entry counts ends)
  · rw [freed]
    exact transfers_of_idle_entry h entry.segment (DttEntry.dataOk_off (.inl rfl))
  · rw [same]
    exact engineIdle_transferItems g h

/-- The engine of a segment may become IDLE before a slot requests its refill. -/
theorem requestRefill_engineIdle (i : SlotIndex) (g : Segment) (s : State) :
    requestRefill i (engineIdle g s) = engineIdle g (requestRefill i s) := by
  unfold requestRefill
  rw [apply_ite (engineIdle g)]
  rfl

theorem requestRefill_transferItems (i : SlotIndex) (h : TransferItems s) : TransferItems (requestRefill i s) :=
  kept_by_run (p := TransferItems) (fun _ _ w hs => Work.transferItems w hs) (requestRefill_works i s) h

theorem fillingCycleEnd_transferItems {i : SlotIndex} {p : PendingRefill} (h : TransferItems s)
    (cycle : (s.engine g).cycle = some c) (ends : c.Ends e) (item : c.item = .streamSlot i)
    (filling : s.slots[i].state = .filling) (pending : s.slots[i].refill = some p) :
    TransferItems (engineIdle g (fillingCycleEnd i p (c.result e) s).1) := by
  obtain ⟨counts, -, carried⟩ := h.cycles g c cycle
  have slot := carried i item
  obtain ⟨done, all, held⟩ := (StreamSlot.dataOk_filling filling).1 (h.slots i) p pending
  have words : c.words = p.words - p.progress := by
    obtain ⟨r, same, -, words⟩ := slot.words
    obtain rfl := Option.some.inj (pending.symm.trans same)
    exact words
  have got := Cycle.data_length counts slot.kind
  have passed := (Cycle.countsOk_iff.1 counts).1
  have failed (f : FailReason) : TransferItems (engineIdle g (failRefill i f s).1) :=
    transfers_of_idle_slot h slot.segment (StreamSlot.dataOk_off (.inl rfl)) fun none => (Bool.false_ne_true none).elim
  rcases fillingCycleEnd_cases i p (c.result e) s with
    ⟨-, ended⟩ | ⟨outcome, ended⟩ | ⟨-, -, ended⟩ | ⟨-, -, ended⟩ | ⟨f, -, ended⟩
  · rw [ended, ← requestRefill_engineIdle]
    refine requestRefill_transferItems i (transfers_of_idle_slot h slot.segment ((StreamSlot.dataOk_holding rfl).2 ?_)
      fun none => (Bool.false_ne_true none).elim)
    change (s.slots[i].held ++ c.readData).length ≤ 31
    rw [List.length_append]
    omega
  · obtain ⟨reported, some⟩ := Cycle.words_of_stop ends counts outcome
    rw [ended]
    refine transfers_of_idle_slot h slot.segment ((StreamSlot.dataOk_filling ?_).2 fun r later => ?_) fun _ => rfl
    · exact filling
    obtain rfl := Option.some.inj later
    refine ⟨show p.progress + (c.result e).done ≤ p.words by omega, all, ?_⟩
    change (s.slots[i].held ++ c.readData).length ≤ 15 + (p.progress + (c.result e).done)
    rw [List.length_append]
    omega
  · rw [ended]
    refine transfers_of_idle_slot h slot.segment ((StreamSlot.dataOk_filling ?_).2 fun r later => ?_) fun _ => rfl
    · exact filling
    obtain rfl := Option.some.inj later
    exact ⟨done, all, held⟩
  · rw [ended]
    exact failed _
  · rw [ended]
    exact failed f

theorem slotCycleEnd_transferItems {i : SlotIndex} (h : TransferItems s) (cycle : (s.engine g).cycle = some c)
    (ends : c.Ends e) (item : c.item = .streamSlot i) :
    TransferItems (engineIdle g (slotCycleEnd i (c.result e) s).1) := by
  rcases slotCycleEnd_cases i (c.result e) s with same | ⟨-, cleared⟩ | ⟨p, filling, pending, ended⟩
  · rw [same]
    exact engineIdle_transferItems g h
  · rw [cleared]
    exact transfers_of_idle_slot h (((h.cycles g c cycle).2.2 i item).segment) (StreamSlot.dataOk_off (.inl rfl))
      fun none => (Bool.false_ne_true none).elim
  · rw [ended]
    exact fillingCycleEnd_transferItems h cycle ends item filling pending

theorem finished_transferItems (h : TransferItems s) (cycle : (s.engine g).cycle = some c) (ends : c.Ends e) :
    TransferItems (finished g c e s) := by
  unfold finished
  cases item : c.item with
  | queueEntry seq => exact engineIdle_transferItems g (queueCycleEnd_transferItems g seq _ h)
  | dttEntry i => exact entryCycleEnd_transferItems h cycle ends item
  | streamSlot i => exact slotCycleEnd_transferItems h cycle ends item

end

/-! ### The other events -/

section
variable {s t : State}

theorem transferItems_reset : TransferItems State.reset where
  cycles := by intro g c busy; cases g <;> cases busy
  entries := by decide
  slots := by decide
  order := by intro g i listed; cases g <;> cases listed

/-- The engine of a segment takes a cycle for its item, and every item stands for what it was. -/
theorem TransferItems.setCycle (h : TransferItems s) (g : Segment) {x : Engine} {c : Cycle} (cycle : x.cycle = some c)
    (counts : c.countsOk = true) (item : c.ItemOk g s) : TransferItems (s.setEngine g x) := by
  refine { h with cycles := ?_ }
  refine PerSegment.forall_set (p := fun k (x : Engine) => ∀ c ∈ x.cycle, c.countsOk = true ∧ c.ItemOk k s)
    h.cycles fun d busy => ?_
  obtain rfl := Option.some.inj (cycle.symm.trans busy)
  exact ⟨counts, item⟩

theorem grantW_transferItems {g : Segment} (e : QueueEntry) (h : TransferItems s) : TransferItems (s.setEngine g
    { s.engine g with lastWF := .w, cycle := some (e.cycle s g) }) :=
  h.setCycle g rfl (Cycle.countsOk_iff.2 ⟨Nat.zero_le _, .inl rfl⟩)
    ⟨fun _ item => (nomatch item), fun _ item => (nomatch item)⟩

theorem grantF_transferItems {g : Segment} {i : EntryIndex} (h : TransferItems s)
    (grantable : s.dtt[i].grantable g = true) :
    TransferItems ((s.setEntry i { s.dtt[i] with state := .issued }).setEngine g
      { s.engine g with lastWF := .f, cycle := some (s.dtt[i].cycle i s g) }) := by
  simp only [DttEntry.grantable, Bool.and_eq_true, Bool.or_eq_true, decide_eq_true_eq] at grantable
  obtain ⟨own, queued⟩ := grantable
  have waits : s.dtt[i].state = .queued ∨ s.dtt[i].state = .partly := queued.imp_left And.left
  have off : s.dtt[i].state ≠ .issued ∧ s.dtt[i].state ≠ .abandoned := by
    rcases waits with waits | waits
    all_goals exact ⟨ne_of_eq_of_ne waits (by decide), ne_of_eq_of_ne waits (by decide)⟩
  have issued := h.setEntry i (e := { s.dtt[i] with state := .issued }) (DttEntry.transfers_of_off off fun data =>
    (DttEntry.dataOk_waits (.inr (.inl rfl))).2 ((DttEntry.dataOk_waits (waits.imp_right .inr)).1 data))
  refine issued.setCycle g (c := s.dtt[i].cycle i s g) rfl (Cycle.countsOk_iff.2 ⟨Nat.zero_le _, .inr rfl⟩)
    ⟨fun j item => ?_, fun _ item => (nomatch item)⟩
  obtain rfl := WorkItem.dttEntry.inj item
  refine (congrArg (DttEntry.Carried _ g) (table_set_self s.dtt i _)).mpr ⟨own, .inl rfl, rfl, ?_⟩
  change (match s.dtt[i].kind with | .read => CycleKind.read | .ackedWrite => CycleKind.write) = .read ↔ _
  cases s.dtt[i].kind
  all_goals decide

theorem grantR_transferItems {g : Segment} {i : SlotIndex} {r : PendingRefill} (h : TransferItems s)
    (listed : i ∈ s.refillOrder.get g) (grantable : s.slots[i].grantable = true)
    (pending : s.slots[i].refill = some r) :
    TransferItems ((s.setSlot i { s.slots[i] with refill := some { r with inCycle := true } }).setEngine g
      { s.engine g with cycle := some (r.cycle i s g) }) := by
  rw [StreamSlot.grantable, pending] at grantable
  simp only [Bool.and_eq_true, decide_eq_true_eq] at grantable
  obtain ⟨⟨filling, idle⟩, -⟩ := grantable
  have off : s.slots[i].OffBus := StreamSlot.offBus_of_state filling (by decide)
    (.inr (by rw [StreamSlot.inCycle, pending]; simpa using idle))
  have granted := h.setSlot i (x := { s.slots[i] with refill := some { r with inCycle := true } })
    (StreamSlot.transfers_of_off off (StreamSlot.dataOk_of_data rfl (Nat.le_refl _) fun d later =>
      ⟨r, pending, by obtain rfl := Option.some.inj later; exact ⟨rfl, rfl⟩⟩)) fun _ => rfl
  refine granted.setCycle g (c := r.cycle i s g) rfl (Cycle.countsOk_iff.2 ⟨Nat.zero_le _, .inr rfl⟩)
    ⟨fun _ item => (nomatch item), fun j item => ?_⟩
  obtain rfl := WorkItem.streamSlot.inj item
  exact (congrArg (StreamSlot.Carried _ g) (table_set_self s.slots i _)).mpr
    ⟨h.order g i listed, .inl filling, rfl, _, rfl, rfl, rfl⟩

theorem word_transferItems {g : Segment} {c : Cycle} (w : Word) (parity : BitVec 4) (h : TransferItems s)
    (cycle : (s.engine g).cycle = some c) (before : c.passed < c.words) :
    TransferItems (startCycle g (c.passWord w parity s.timebase) s) := by
  obtain ⟨counts, entries, slots⟩ := h.cycles g c cycle
  have data := (Cycle.countsOk_iff.1 counts).2
  have same : (c.passWord w parity s.timebase).item = c.item ∧ (c.passWord w parity s.timebase).kind = c.kind ∧
      (c.passWord w parity s.timebase).words = c.words := by
    unfold Cycle.passWord
    split
    all_goals exact ⟨rfl, rfl, rfl⟩
  obtain ⟨item, kind, words⟩ := same
  refine h.setCycle g rfl (Cycle.countsOk_iff.2 ?_) ⟨fun i carries => ?_, fun i carries => ?_⟩
  · unfold Cycle.passWord
    cases way : c.kind with
    | write => exact ⟨before, .inl rfl⟩
    | read => exact ⟨before, .inr (by simp [data.resolve_left (ne_of_eq_of_ne way (by decide))])⟩
  · obtain ⟨own, marked, all, way⟩ := entries i (item.symm.trans carries)
    exact ⟨own, marked, words.trans all, by rw [kind, way]⟩
  · obtain ⟨own, marked, way, r, pending, busy, all⟩ := slots i (item.symm.trans carries)
    exact ⟨own, marked, kind.trans way, r, pending, busy, words.trans all⟩

theorem faultEntries_transferItems (g : Segment) (h : TransferItems s) : TransferItems (faultEntries g s) := by
  refine h.setEntries (forall_mapAll (p := fun i e => s.dtt[i].Transfers e) fun i => ?_)
  split
  · rename_i waits
    refine DttEntry.transfers_of_off ?_ fun _ => DttEntry.dataOk_failed s _ _
    rcases waits.2 with waits | waits
    all_goals exact ⟨ne_of_eq_of_ne waits (by decide), ne_of_eq_of_ne waits (by decide)⟩
  · exact s.dtt[i].transfers_refl

theorem Event.transferItems (e : Event s t) (h : TransferItems s) : TransferItems t := by
  cases e with
  | powerOn => exact { transferItems_reset with }
  | leave n bare =>
    rw [leaveLane_fields]
    exact { h with }
  | grantW g e idle enabled head => exact grantW_transferItems e h
  | grantF g i idle enabled grantable => exact grantF_transferItems h grantable
  | grantR g i r idle enabled listed grantable pending => exact grantR_transferItems h listed grantable pending
  | claim g c cycle =>
    obtain ⟨counts, entries, slots⟩ := h.cycles g c cycle
    refine h.setCycle g rfl counts ⟨fun i item => ?_, fun i item => ?_⟩
    · obtain ⟨own, marked, words, kind⟩ := entries i item
      exact ⟨own, marked, words, kind⟩
    · obtain ⟨own, marked, kind, words⟩ := slots i item
      exact ⟨own, marked, kind, words⟩
  | word g c w parity cycle before => exact word_transferItems w parity h cycle before
  | segmentDown g => exact faultEntries_transferItems g h
  | faulted g idle empty waits slots =>
    exact h.of_transfers (PerSegment.forall_set
      (p := fun k (e : Engine) => ∀ c ∈ e.cycle, c ∈ (s.engines.get k).cycle) (fun _ _ => id) fun _ => id)
      (fun i => s.dtt[i].transfers_refl) (fun i => s.slots[i].transfers_refl) h.order
  | _ => exact { h with }

/-- Settles O15: no change keeps a cycle apart from the remainder of its item, or an item from its words. -/
theorem transfersMatchProgressKept : Obligations.TransfersMatchProgressKept := by
  refine keptByStep_of_moves (fun _ _ h => h) (fun s t m h => ?_) fun _ _ _ h _ => h
  have items := transfersOk_iff.1 h
  refine transfersOk_iff.2 ?_
  cases m with
  | work w => exact w.transferItems items
  | event e => exact e.transferItems items
  | finish g c e cycle ends => exact finished_transferItems items cycle ends

end

/-! ### The invariant at reset (R186) -/

theorem noDuplicateEntries_reset : NoDuplicateEntries State.reset := by
  have free : ∀ i : EntryIndex, State.reset.dtt[i].matchable = false := by decide
  exact fun i _ _ matchable => (Bool.false_ne_true ((free i).symm.trans matchable)).elim

/-- Settles O4: on the finite tables of the reset state each part of the invariant is decided, or holds because nothing
is in use. -/
theorem invariantHoldsAtReset : Obligations.InvariantHoldsAtReset := by
  have lanesAndRole : LanesAndRoleOk State.reset := by decide
  have log : LogOk State.reset := by decide
  have queues : QueuesOk State.reset := by decide
  have barriers : BarriersOk State.reset := by decide
  have counts : CountsOk State.reset := by decide
  have timers : TimersOk State.reset := by decide
  have owners : OwnersOk State.reset := by decide
  have blocks : BlocksOk State.reset := by decide
  exact ⟨lanesAndRole, log, queues, noDuplicateEntries_reset, busOk_iff.2 busItems_reset, barriers, counts, timers,
    owners, blocks, transfersOk_iff.2 transferItems_reset⟩

end Sys2Proof.Machine
end

section
/-! The step, the reset, the lanes' own events, and the segment engines: the arbiter, the grant, the words of a cycle and
the outcomes of its end. -/

namespace Sys2Proof.Machine

/-! ### The step and the reset -/

/-- Settles O1: both equations are the two cases of the step. -/
theorem stepRunsFrontCommand : Obligations.StepRunsFrontCommand := ⟨fun _ _ _ => rfl, fun _ => rfl⟩

/-- Settles O3: the next state is the reset state with the commands that wait, and the reset state is known. -/
theorem powerOnResetValues : Obligations.PowerOnResetValues := by
  intro s
  have lanes : ∀ n : LaneId, State.reset.lanes[n].state = .down ∧ State.reset.lanes[n].epoch = 0 ∧
      State.reset.lanes[n].rx = [] ∧ State.reset.lanes[n].tx = [] := by decide
  have banks : ∀ k : WindowIndex, State.reset.staged[k] = WindowRecord.cleared ∧
      State.reset.live[k] = WindowRecord.cleared := by decide
  have entries : ∀ i : EntryIndex, State.reset.dtt[i].state = .free := by decide
  have counts : ∀ n : LaneId, State.reset.fences[n] = none ∧ State.reset.failedWrites[n] = 0 := by decide
  have slots : ∀ i : SlotIndex, State.reset.slots[i].state = .empty := by decide
  refine ⟨powerOn s, rfl, rfl, lanes, rfl, banks, rfl, entries, rfl, fun g => ?_, counts, rfl, slots, rfl, fun g => ?_,
    rfl, rfl, rfl, rfl, rfl⟩
  · cases g <;> rfl
  · cases g <;> rfl

/-! ### The lanes' own events -/

/-- Settles O59: each event's condition holds, and its change is the one stated. -/
theorem arrivalDeliverySend : Obligations.ArrivalDeliverySend := by
  refine fun s n => ⟨fun down => ?_, fun p up room => ?_, fun x rest front => ?_⟩
  · change Host.Outcome.next (arrivalEvent n s) = _
    rw [arrivalEvent, if_pos down]
    rfl
  · change Host.Outcome.next (deliveryEvent n p s) = _
    rw [deliveryEvent, if_pos up]
    exact congrArg Host.Outcome.next (if_pos room)
  · change Host.Outcome.next (s.modifyLane n Lane.sendFront) = _
    rw [State.modifyLane, Lane.sendFront, front]

/-! ### The arbiter (R50, R79, R114, R136) -/

/-- The pick over the indices that pass a test: of those with the greatest key, the lowest. -/
theorem pickMax_finRange_eq_some {n : Nat} {key : Fin n → Nat} {p : Fin n → Bool} {i : Fin n} :
    pickMax key ((List.finRange n).filter p) = some i ↔
      p i = true ∧ ∀ j, p j = true → key j < key i ∨ key j = key i ∧ i ≤ j := by
  have picked {i : Fin n} (h : pickMax key ((List.finRange n).filter p) = some i) :
      p i = true ∧ ∀ j, p j = true → key j < key i ∨ key j = key i ∧ i ≤ j := by
    have passes := pickMax_mem h
    obtain ⟨before, behind, split, less, most⟩ := pickMax_eq_some h
    have sorted : (before ++ i :: behind).Pairwise (· < ·) := split ▸ (List.pairwise_lt_finRange n).filter p
    refine ⟨(List.mem_filter.1 passes).2, fun j pj => ?_⟩
    have listed : j ∈ before ++ i :: behind := split ▸ List.mem_filter.2 ⟨List.mem_finRange j, pj⟩
    rcases List.mem_append.1 listed with first | rest
    · exact .inl (less j first)
    · rcases List.mem_cons.1 rest with rfl | later
      · exact .inr ⟨rfl, le_refl j⟩
      · rcases Nat.lt_or_eq_of_le (most j later) with fewer | same
        · exact .inl fewer
        · exact .inr ⟨same, Fin.le_of_lt ((List.pairwise_cons.1 (List.pairwise_append.1 sorted).2.1).1 j later)⟩
  refine ⟨picked, fun ⟨pi, best⟩ => ?_⟩
  cases found : pickMax key ((List.finRange n).filter p) with
  | none =>
    have empty := (pickMax_eq_none key _).1 found
    exact (List.not_mem_nil (empty ▸ List.mem_filter.2 ⟨List.mem_finRange i, pi⟩)).elim
  | some x =>
    obtain ⟨px, most⟩ := picked found
    have first := best x px
    have second := most i pi
    exact congrArg some (by omega)

theorem candidateF_eq_some {g : Segment} {s : State} {i : EntryIndex} :
    candidateF g s = some i ↔ OldestGrantable s g i := pickMax_finRange_eq_some

/-- With the engine IDLE the head is a candidate when it is closed. -/
theorem candidateW_eq_some {g : Segment} {s : State} (idle : (s.engine g).cycle = none) {e : QueueEntry} :
    candidateW g s = some e ↔ (s.queues.get g).entries.head? = some e ∧ e.closeTime = none := by
  have free (seq : Seq) : (s.engine g).carries seq = false := by rw [Engine.carries, idle]
  unfold candidateW
  cases (s.queues.get g).entries.head? with
  | none => exact ⟨fun h => (nomatch h), fun h => (nomatch h.1)⟩
  | some d =>
    simp only [free, Bool.not_false, Bool.and_true, QueueEntry.closed, Option.isNone_iff_eq_none]
    constructor
    · intro h
      split at h
      · obtain rfl := Option.some.inj h
        exact ⟨rfl, ‹_›⟩
      · contradiction
    · rintro ⟨same, closed⟩
      obtain rfl := Option.some.inj same
      exact if_pos closed

theorem DttEntry.grantable_iff {e : DttEntry} {g : Segment} : e.grantable g = true ↔
    e.segment = g ∧ (e.state = .queued ∧ e.barrier.met = true ∨ e.state = .partly) := by
  simp only [DttEntry.grantable, Bool.and_eq_true, Bool.or_eq_true, decide_eq_true_eq]

theorem StreamSlot.grantable_iff {x : StreamSlot} : x.grantable = true ↔
    x.state = .filling ∧ ∃ r, x.refill = some r ∧ r.inCycle = false ∧ r.barrier.met = true := by
  unfold StreamSlot.grantable
  cases x.refill with
  | none => exact ⟨fun h => (Bool.false_ne_true h).elim, fun ⟨_, _, h, _⟩ => (nomatch h)⟩
  | some r =>
    simp only [Bool.and_eq_true, Bool.not_eq_true', decide_eq_true_eq, Option.some.injEq, exists_eq_left', and_assoc]

theorem candidateR_eq_some {g : Segment} {s : State} {i : SlotIndex} :
    candidateR g s = some i ↔ ∃ l r : List SlotIndex, s.refillOrder.get g = l ++ i :: r ∧
      (∀ j ∈ l, s.slots[j].grantable = false) ∧ s.slots[i].grantable = true := by
  rw [candidateR, List.find?_eq_some_iff_append]
  simp only [Bool.not_eq_true']
  constructor
  · rintro ⟨may, l, r, order, before⟩
    exact ⟨l, r, order, before, may⟩
  · rintro ⟨l, r, order, before, may⟩
    exact ⟨may, l, r, order, before⟩

/-- Settles O46: what makes each candidate, and then the arbiter's table row by row. -/
theorem workArbiterTable : Obligations.WorkArbiterTable := by
  refine fun s g idle => ⟨fun e => candidateW_eq_some idle, fun i => candidateF_eq_some,
    fun i => DttEntry.grantable_iff, fun i => ?_, fun e w high => ?_, fun e i w f low => ⟨fun last => ?_, fun last => ?_⟩,
    fun e w f => ?_, fun i w f => ?_, fun w f => ?_⟩
  · rw [candidateR_eq_some]
    simp only [StreamSlot.grantable_iff]
  · rw [arbiter, w]
    cases candidateF g s with
    | none => rfl
    | some i => exact if_pos high
  · rw [arbiter, w, f]
    exact (if_neg (Nat.not_le_of_lt low)).trans (if_pos last)
  · rw [arbiter, w, f]
    exact (if_neg (Nat.not_le_of_lt low)).trans (if_neg (ne_of_eq_of_ne last (by decide)))
  · rw [arbiter, w, f]
  · rw [arbiter, w, f]
  · rw [arbiter, w, f]

/-! ### The grant (R137) -/

theorem exec_grant {s : State} {g : Segment} {item : WorkItem} (idle : (s.engine g).cycle = none)
    (enabled : (s.engine g).state = .enabled) (choice : arbiter g s = some item) :
    exec (.grant g) s = .next (startItem g item s) := by
  change Host.Outcome.next (grantEvent g s) = _
  rw [grantEvent, if_pos ⟨by rw [Engine.idle, idle]; rfl, enabled⟩, choice]

/-- The request orders stay when every slot in them still has a pending refill (R108). -/
theorem keptOrder_of_pending {v : Vector StreamSlot 4} {p : PerSegment (List SlotIndex)}
    (pending : ∀ g, ∀ i ∈ p.get g, v[i].refill.isSome = true) : keptOrder v p = p := by
  have kept (g : Segment) : (p.get g).filter (fun i => v[i].refill.isSome) = p.get g := List.filter_eq_self.2 (pending g)
  have a := kept .a
  have b := kept .b
  simp only [PerSegment.get_a, PerSegment.get_b] at a b
  simp only [keptOrder, PerSegment.map, a, b]

/-- A write of a slot that leaves it with a pending refill leaves the request orders as they are. -/
theorem setSlot_of_pending {s : State} (items : ItemsOnBusOk s) {i : SlotIndex} {x : StreamSlot}
    (pending : x.refill.isSome = true ∨ s.slots[i].refill = none) :
    s.setSlot i x = { s with slots := s.slots.set i x } := by
  have listed (g : Segment) (j : SlotIndex) (h : j ∈ s.refillOrder.get g) : s.slots[j].refill.isSome = true := by
    obtain ⟨-, -, -, a, b⟩ := items
    cases g with
    | a => exact (a j h).2
    | b => exact (b j h).2
  have kept : keptOrder (s.slots.set i x) s.refillOrder = s.refillOrder := by
    refine keptOrder_of_pending fun g j h => ?_
    rw [table_set]
    split
    · rename_i same
      refine pending.resolve_right fun none => ?_
      subst same
      exact Bool.false_ne_true ((congrArg Option.isSome none).symm.trans (listed g i h))
    · exact listed g j h
  exact congrArg (fun order => { s with slots := s.slots.set i x, refillOrder := order }) kept

theorem startCycle_markWF (g : Segment) (c : Cycle) (x : WorF) (s : State) :
    startCycle g c (markWF g x s) = s.setEngine g { s.engine g with lastWF := x, cycle := some c } := by
  simp only [startCycle, markWF, State.setEngine, State.engine, PerSegment.get_set_self, PerSegment.set_set]

/-- Settles O47: the arbiter's choice starts, item by item; a slot of the request order has a pending refill, so the
order stays. -/
theorem grantStartsTheCycle : Obligations.GrantStartsTheCycle := by
  refine fun s g idle enabled => ⟨fun e head choice => ?_, fun i choice => ?_, fun i r pending choice items => ?_⟩
  · rw [exec_grant idle enabled choice, startItem, head]
    exact congrArg Host.Outcome.next (startCycle_markWF g (e.cycle s g) .w s)
  · have kind : (s.dtt[i].cycle i s g).kind = if s.dtt[i].kind = .read then .read else .write := by
      change (match s.dtt[i].kind with | .read => CycleKind.read | .ackedWrite => CycleKind.write) = _
      cases s.dtt[i].kind <;> rfl
    rw [exec_grant idle enabled choice, startItem, startCycle_markWF, ← kind]
    rfl
  · rw [exec_grant idle enabled choice, startItem, pending]
    dsimp only
    rw [setSlot_of_pending items (.inl rfl)]
    rfl

/-! ### The claim and the words (R128, R129, R131, R132) -/

/-- A nibble written as a sum of powers of two has those bits. -/
theorem nibble_getLsbD (f : Nat → Bool) {b : Nat} (hb : b < 4) :
    (BitVec.ofNat 4 (((List.range 4).map fun b => if f b then 2 ^ b else 0).sum)).getLsbD b = f b := by
  have bits : ∀ p q r t : Bool, ∀ b < 4, (BitVec.ofNat 4 (((List.range 4).map fun b =>
      if [p, q, r, t].getD b false then 2 ^ b else 0).sum)).getLsbD b = [p, q, r, t].getD b false := by decide
  have bit := bits (f 0) (f 1) (f 2) (f 3) b hb
  interval_cases b
  all_goals exact bit

theorem sum_map_bit_eq_countP (p : Nat → Bool) (l : List Nat) :
    (l.map fun i => if p i then 1 else 0).sum = l.countP p := by
  induction l with
  | nil => rfl
  | cons x l ih => rw [List.map_cons, List.sum_cons, List.countP_cons, ih, Nat.add_comm]

theorem onesOf_byteOf (w : Word) (b : Nat) :
    onesOf (byteOf w b) = (List.range 8).countP fun i => w.getLsbD (8 * b + i) := by
  rw [onesOf, sum_map_bit_eq_countP]
  refine List.countP_congr fun i hi => ?_
  rw [byteOf, BitVec.getLsbD_extractLsb', decide_eq_true (List.mem_range.1 hi), Bool.true_and]

theorem parityError_eq_false_iff {w : Word} {q : BitVec 4} : parityError w q = false ↔ ∀ b < 4,
    (((List.range 8).countP fun i => w.getLsbD (8 * b + i)) + (if q.getLsbD b then 1 else 0)) % 2 = 1 := by
  have bit (b : Nat) (hb : b < 4) : q.getLsbD b = (wordParity w).getLsbD b ↔
      (((List.range 8).countP fun i => w.getLsbD (8 * b + i)) + (if q.getLsbD b then 1 else 0)) % 2 = 1 := by
    have odd : (wordParity w).getLsbD b = decide (onesOf (byteOf w b) % 2 = 0) :=
      nibble_getLsbD (fun b => oddParity (byteOf w b)) hb
    rw [odd, onesOf_byteOf]
    cases q.getLsbD b with
    | true =>
      rw [eq_comm, decide_eq_true_eq, if_pos rfl]
      omega
    | false =>
      rw [eq_comm, decide_eq_false_iff_not, if_neg Bool.false_ne_true]
      omega
  simp only [parityError, decide_eq_false_iff_not, ne_eq, Decidable.not_not]
  exact ⟨fun same b hb => (bit b hb).1 (same ▸ rfl), fun h => BitVec.eq_of_getLsbD_eq fun b hb => (bit b hb).2 (h b hb)⟩

/-- Settles O48: within its limit each event is taken, by the phase of the cycle and its way. -/
theorem claimWordsAndParity : Obligations.ClaimWordsAndParity := by
  refine ⟨fun s g c t cycle phase due => ?_, fun s g c t w q cycle phase due => ?_, fun w q => parityError_eq_false_iff⟩
  · change Host.Outcome.next (claimEvent g s) = _
    simp only [claimEvent, cycle, phase]
    exact congrArg Host.Outcome.next (if_pos due)
  · have boundary : c.atBoundary s = true := by
      simp only [Cycle.atBoundary, phase]
      exact decide_eq_true due
    have word : exec (.wordPass g w q) s = .next (if c.passed < c.words then
        startCycle g (c.passWord w q s.timebase) s else s) := by
      change Host.Outcome.next (wordEvent g w q s) = _
      simp only [wordEvent, cycle, boundary, true_and]
    refine ⟨fun more read => ?_, fun more write => ?_, fun all => ?_⟩
    · rw [word, if_pos more, Cycle.passWord, read]
      rfl
    · rw [word, if_pos more, Cycle.passWord, write]
      rfl
    · rw [word, if_neg (Nat.not_lt_of_le all)]

/-! ### Endings, outcomes and the count (R130, R133, R140 to R143) -/

/-- Settles O49: the endings by where the boundary stands, the outcomes by whether the cycle is spoiled. -/
theorem endingsAndOutcomes : Obligations.EndingsAndOutcomes := by
  refine ⟨fun k n most some => ⟨rfl, fun x other => ?_⟩, fun c => ?_⟩
  · have signalled : endingAt k n x = if k = n then .done else if k = 0 then .backoff else .stop := by
      cases x with
      | fault => exact (other rfl).elim
      | done => rfl
      | stop => rfl
      | backoff => rfl
    rw [signalled]
    refine ⟨fun all => if_pos all, fun none => ?_, fun first last => ?_⟩
    · rw [if_neg (by omega), if_pos none]
    · rw [if_neg (by omega), if_neg (by omega)]
  · have spoiled : c.spoiled = true ↔ c.kind = .read ∧ c.badWord = true := by
      simp only [Cycle.spoiled, Bool.and_eq_true, decide_eq_true_eq]
    refine ⟨rfl, rfl, rfl, rfl, fun sound => ?_, fun bad => ?_⟩
    · have sound := fun bad => sound (spoiled.1 bad)
      simp only [Cycle.result, Cycle.outcome, if_neg sound]
      exact ⟨rfl, rfl⟩
    · simp only [Cycle.result, Cycle.outcome, if_pos (spoiled.2 bad)]
      exact ⟨rfl, rfl⟩

/-- Settles O54: the count by the outcome's row, and the fault test by its three conditions. -/
theorem failureCountAndFaultTest : Obligations.FailureCountAndFaultTest := by
  refine ⟨fun c o count => ⟨?_, ?_, ?_, fun f failure => ?_, rfl, rfl, rfl, rfl⟩, fun x failure count threshold f => ?_⟩
  · rintro (rfl | rfl)
    · exact ⟨rfl, rfl⟩
    · exact ⟨rfl, rfl⟩
  · rintro rfl early
    have none : c.countedFailure .backoff = none := if_neg early
    exact ⟨none, by rw [Cycle.nextFailures, none]; rfl⟩
  · rintro rfl last
    have busy : c.countedFailure .backoff = some .targetBusy := if_pos last
    exact ⟨busy, by rw [Cycle.nextFailures, busy]; rfl⟩
  · have counted : c.countedFailure o = some f := by
      cases o with
      | done => contradiction
      | stop => contradiction
      | backoff => contradiction
      | noTarget => exact failure
      | timeout => exact failure
      | fault => exact failure
      | parity => exact failure
    exact ⟨counted, by rw [Cycle.nextFailures, counted]; rfl⟩
  · unfold faultCause
    split
    · rename_i test
      exact ⟨fun cause => ⟨test.1, cause, test.2⟩, fun h => h.2.1⟩
    · rename_i test
      exact ⟨fun none => (nomatch none), fun ⟨up, _, set⟩ => (test ⟨up, set⟩).elim⟩

end Sys2Proof.Machine
end

section
/-! The outcomes of a cycle for its owner, table by table: a queue head, an entry of the table, a stream slot (R52, R63,
R81, R115, R116, R123). -/

namespace Sys2Proof.Machine

/-! ### An entry of the table (R52, R63) -/

section
variable {s : State} {i : EntryIndex} {r : CycleResult}

theorem entryCycleEnd_issued (issued : s.dtt[i].state = .issued) :
    entryCycleEnd i r s = (s.setEntry i (s.dtt[i].endIssued s r), []) := by
  simp only [entryCycleEnd, issued]

theorem entryCycleEnd_abandoned (abandoned : s.dtt[i].state = .abandoned) :
    entryCycleEnd i r s = (s.setEntry i DttEntry.cleared, s.dtt[i].workAbandoned (s.dtt[i].progress + r.done)
      (min (s.dtt[i].progress + r.done) s.dtt[i].words)) := by
  simp only [entryCycleEnd, abandoned]

/-- The end of an entry's cycle changes that entry alone. -/
theorem entryCycleEnd_fields (i : EntryIndex) (r : CycleResult) (s : State) : (entryCycleEnd i r s).1 =
    { s with dtt := s.dtt.set i (entryCycleEnd i r s).1.dtt[i] } := by
  have written {x : DttEntry} : s.setEntry i x = { s with dtt := s.dtt.set i (s.setEntry i x).dtt[i] } := by
    rw [State.setEntry_dtt, table_set_self]
    rfl
  rcases entryCycleEnd_cases i r s with ⟨-, ended⟩ | ⟨-, bs, freed⟩ | ⟨-, -, same⟩
  · rw [ended]
    exact written
  · rw [freed]
    exact written
  · rw [same]
    exact congrArg (fun v => { s with dtt := v }) (Vector.set_getElem_self i.isLt).symm

end

/-- Settles O51: an ISSUED entry by the row of its outcome, an ABANDONED one by whether a word was done. -/
theorem entryCycleOutcomes : Obligations.EntryCycleOutcomes := by
  intro s i r e out f ready
  refine ⟨entryCycleEnd_fields i r s, fun issued => ?_, fun abandoned => ?_⟩
  · have ended := entryCycleEnd_issued (r := r) issued
    have entry : f = e.endIssued s r :=
      (congrArg (fun o : State × List RecordBody => o.1.dtt[i]) ended).trans (table_set_self s.dtt i _)
    have row {o : CycleOutcome} {x : DttEntry} (outcome : r.outcome = o) (h : e.endIssued s { r with outcome := o } = x) :
        f = x := by
      rw [entry, ← h, ← outcome]
    have failed {o : CycleOutcome} {c : FailReason} (outcome : r.outcome = o)
        (h : e.endIssued s { r with outcome := o } = e.makeReady s (.failed c)) : ready (.failed c) [] := by
      change f = _
      rw [row outcome h]
      rfl
    refine ⟨congrArg Prod.snd ended, fun done => ?_, fun stop => row stop rfl, fun backoff few => ?_,
      fun backoff last => ?_, fun h => failed h rfl, fun h => failed h rfl, fun h => failed h rfl, fun h => failed h rfl⟩
    · change f = _
      rw [row done rfl]
      rfl
    · exact row backoff (if_pos few)
    · change f = _
      rw [row backoff (if_neg (Nat.not_lt_of_le last))]
      rfl
  · have ended := entryCycleEnd_abandoned (r := r) abandoned
    have entry : f = DttEntry.cleared :=
      (congrArg (fun o : State × List RecordBody => o.1.dtt[i]) ended).trans (table_set_self s.dtt i _)
    have records := congrArg Prod.snd ended
    refine ⟨by rw [entry]; rfl, fun write worked => ?_, fun none => ?_⟩
    · exact records.trans (if_pos ⟨write, worked⟩)
    · refine records.trans (if_neg fun ⟨write, worked⟩ => ?_)
      rcases none with read | zero
      · exact absurd (read.symm.trans write) (by decide)
      · exact Nat.pos_iff_ne_zero.1 worked zero

/-! ### A queue head (R81) -/

section
variable {s : State} {g : Segment} {e : QueueEntry} {rest : List QueueEntry} (head : (s.queues.get g).entries = e :: rest)
include head

theorem retireHead_of_head : retireHead g s =
    meetBarriers g e.seq (s.setQueue g { s.queues.get g with entries := rest, retired := e.seq }) := by
  rw [retireHead, head]

theorem setHead_of_head (f : QueueEntry) :
    setHead g f s = s.setQueue g { s.queues.get g with entries := f :: rest } := by
  rw [setHead, head]
  rfl

end

/-- Settles O52: the head's row is that of the outcome, and an entry that is no longer the head has none. -/
theorem queueHeadOutcomes : Obligations.QueueHeadOutcomes := by
  intro s g seq r q
  refine ⟨fun e rest head same => ?_, fun other => ?_⟩
  · subst same
    intro gone stays fails
    have failed (f : FailReason) : retireFailed g e f s = fails f := by
      rw [retireFailed, retireHead_of_head head]
      rfl
    have stay (f : QueueEntry) : setHead g f s = stays f := setHead_of_head head f
    have row {o : CycleOutcome} {t : State × List RecordBody} (outcome : r.outcome = o)
        (h : queueCycleEnd g e.seq { r with outcome := o } s = t) : queueCycleEnd g e.seq r s = t := by
      rw [← h, ← outcome]
    have first : (s.queues.get g).entries.head? = some e := by rw [head]; rfl
    refine ⟨fun h => row h ?_, fun h => row h ?_, fun h few => row h ?_, fun h last => row h ?_, fun h => row h ?_,
      fun h => row h ?_, fun h => row h ?_⟩
    all_goals simp only [queueCycleEnd, first, if_true]
    · rw [retireHead_of_head head]
    · rw [stay]
    · exact (if_pos few).trans (by rw [stay])
    · exact (if_neg (Nat.not_lt_of_le last)).trans (failed _)
    · exact failed _
    · exact failed _
    · exact failed _
  · unfold queueCycleEnd
    split
    · rfl
    · rename_i e head
      exact if_neg (other e head)

/-! ### A stream slot (R115, R116, R123) -/

/-- Settles O53: a FILLING slot by the row of its refill's outcome, a RETIRING one becomes EMPTY. -/
theorem refillOutcomes : Obligations.RefillOutcomes := by
  intro s i p r pending x out ended
  have failed {f : FailReason} (h : out = failRefill i f s) : ended f := by
    refine ⟨StreamSlot.cleared, rfl, rfl, h.trans ?_⟩
    simp only [failRefill, StreamSlot.refillFailed, pending, Option.map_some]
    rfl
  refine ⟨fun filling => ?_, fun retiring => ⟨StreamSlot.cleared, rfl, rfl, ?_⟩⟩
  · have ends : out = fillingCycleEnd i p r s := by
      simp only [out, slotCycleEnd, show s.slots[i].state = .filling from filling, pending]
    have row {o : CycleOutcome} {t : State × List RecordBody} (outcome : r.outcome = o)
        (h : fillingCycleEnd i p { r with outcome := o } s = t) : out = t := by
      rw [ends, ← h, ← outcome]
    exact ⟨fun h => row h rfl, fun h => row h rfl, fun h few => row h (if_pos few),
      fun h last => failed (row h (if_neg (Nat.not_lt_of_le last))), fun h => failed (row h rfl),
      fun h => failed (row h rfl), fun h => failed (row h rfl), fun h => failed (row h rfl)⟩
  · simp only [out, slotCycleEnd, show s.slots[i].state = .retiring from retiring]

end Sys2Proof.Machine
end

section
/-! Stream slots: serving, the request of a refill, and allocation (R110 to R113, R117). -/

namespace Sys2Proof.Machine

/-! ### Serving and refills -/

section
variable {s : State} {i : SlotIndex}

theorem StreamSlot.wantsRefill_iff {x : StreamSlot} : x.wantsRefill = true ↔
    x.state = .holding ∧ x.held.length < 16 ∧ x.nextAddr.toNat + 4 * x.held.length < x.windowEnd := by
  simp only [StreamSlot.wantsRefill, Bool.and_eq_true, decide_eq_true_eq, and_assoc]
  rfl

theorem requestRefill_unwanted (h : s.slots[i].wantsRefill = false) : requestRefill i s = s :=
  if_neg (Bool.eq_false_iff.1 h)

/-- A refill that is wanted goes last in the request order, which keeps all that stood in it. -/
theorem requestRefill_wanted (items : ItemsOnBusOk s) (h : s.slots[i].wantsRefill = true) :
    requestRefill i s = { s with
      slots := s.slots.set i (s.slots[i].withRefill (s.queues.get s.slots[i].segment).tailBarrier)
      refillOrder := s.refillOrder.set s.slots[i].segment (s.refillOrder.get s.slots[i].segment ++ [i])
      queues := s.queues.set s.slots[i].segment (s.queues.get s.slots[i].segment).closeTail } := by
  have closed : ItemsOnBusOk (closeTail s.slots[i].segment s) := items
  simp only [requestRefill, if_pos h]
  rw [setSlot_of_pending closed (.inl rfl)]
  rfl

/-- A slot that is not HOLDING does not want a refill. -/
theorem StreamSlot.wantsRefill_of_not_holding {x : StreamSlot} (h : x.state ≠ .holding) : x.wantsRefill = false :=
  Bool.eq_false_iff.2 fun wants => h (StreamSlot.wantsRefill_iff.1 wants).1

theorem serveSlot_last {w : Nat} (holding : s.slots[i].state = .holding)
    (last : s.slots[i].nextAddr.toNat + 4 * w = s.slots[i].windowEnd) (all : s.slots[i].held.length ≤ w) :
    serveSlot i w s = s.setSlot i StreamSlot.cleared :=
  if_pos ⟨holding, last, List.drop_eq_nil_of_le all⟩

theorem serveSlot_more {w : Nat} (more : ¬(s.slots[i].state = .holding ∧
      s.slots[i].nextAddr.toNat + 4 * w = s.slots[i].windowEnd ∧ s.slots[i].held.length ≤ w)) :
    serveSlot i w s =
      requestRefill i (s.setSlot i (s.slots[i].serve w s.timebase (s.after s.params.streamIdle))) :=
  if_neg fun ⟨holding, last, gone⟩ => more ⟨holding, last, List.drop_eq_nil_iff.1 gone⟩

end

/-- Settles O24: serving by the slot's state and what is left of the window, the refill by whether it is wanted. -/
theorem servingAndRefillRequest : Obligations.ServingAndRefillRequest := by
  intro s i items x g start
  refine ⟨fun w => ⟨fun holding last all => ?_, fun holding more => ?_, fun filling => ?_⟩, fun holding few inside => ?_,
    fun unwanted => requestRefill_unwanted (Bool.eq_false_iff.2 fun wants => ?_)⟩
  · exact ⟨StreamSlot.cleared, rfl, serveSlot_last holding last all⟩
  · exact serveSlot_more fun ⟨_, last, all⟩ => more.elim (· last) (Nat.not_lt_of_le all)
  · have notHolding : x.state ≠ .holding := ne_of_eq_of_ne filling (by decide)
    have unwanted : (s.setSlot i (x.serve w s.timebase (s.after s.params.streamIdle))).slots[i].wantsRefill = false := by
      rw [State.setSlot_slots, table_set_self]
      exact StreamSlot.wantsRefill_of_not_holding notHolding
    exact (serveSlot_more fun h => notHolding h.1).trans (requestRefill_unwanted unwanted)
  · rw [requestRefill_wanted items (StreamSlot.wantsRefill_iff.2 ⟨holding, few, inside⟩)]
    rfl
  · obtain ⟨holding, few, inside⟩ := StreamSlot.wantsRefill_iff.1 wants
    rcases unwanted with other | many | outside
    · exact other holding
    · exact Nat.not_lt_of_le many few
    · exact Nat.not_lt_of_le outside inside

/-! ### Allocation -/

section
variable {o : Owner} {s : State} {j : SlotIndex}

/-- The slot chosen is the first EMPTY one, or with none EMPTY the longest unused HOLDING one of another owner. -/
theorem chooseSlot_eq_some : chooseSlot o s = some j ↔
    (s.slots[j].state = .empty ∧ ∀ i : SlotIndex, i < j → s.slots[i].state ≠ .empty) ∨
    ((∀ i : SlotIndex, s.slots[i].state ≠ .empty) ∧ s.slots[j].state = .holding ∧ s.slots[j].owner ≠ o ∧
      ∀ i : SlotIndex, s.slots[i].state = .holding → s.slots[i].owner ≠ o →
        (s.timebase - s.slots[i].lastUse).toNat < (s.timebase - s.slots[j].lastUse).toNat ∨
        (s.timebase - s.slots[i].lastUse).toNat = (s.timebase - s.slots[j].lastUse).toNat ∧ j ≤ i) := by
  unfold chooseSlot
  cases first : findFirst (fun x => x.state = .empty) s.slots with
  | some i =>
    obtain ⟨empty, lowest⟩ := findFirst_eq_some.1 first
    simp only [decide_eq_true_eq, decide_eq_false_iff_not] at empty lowest
    constructor
    · intro same
      obtain rfl := Option.some.inj same
      exact .inl ⟨empty, lowest⟩
    · rintro (⟨empty', lowest'⟩ | ⟨none, -⟩)
      · rcases lt_trichotomy i j with less | rfl | more
        · exact (lowest' i less empty).elim
        · rfl
        · exact (lowest j more empty').elim
      · exact (none i empty).elim
  | none =>
    have none : ∀ i : SlotIndex, s.slots[i].state ≠ .empty := by
      simpa only [decide_eq_false_iff_not] using findFirst_eq_none.1 first
    have picked := pickMax_finRange_eq_some (key := fun i : SlotIndex => (s.timebase - s.slots[i].lastUse).toNat)
      (p := fun i => decide (s.slots[i].state = .holding) && decide (s.slots[i].owner ≠ o)) (i := j)
    simp only [Bool.and_eq_true, decide_eq_true_eq, and_imp, and_assoc] at picked
    exact picked.trans ⟨fun h => .inr ⟨none, h⟩, fun h => (h.resolve_left fun empty => none j empty.1).2⟩

end

/-- Settles O26: the branches of the allocation, and the choice. -/
theorem streamSlotAllocation : Obligations.StreamSlotAllocation := by
  intro s o k g a w next windowEnd fresh
  refine ⟨fun declined => if_pos declined, fun inside up => ?_, fun j => chooseSlot_eq_some⟩
  have goes : allocateSlot o k g a w s = match ownSlot o s with
      | some i => if s.slots[i].inCycle then takeSlot o k g next (dropSlot i s) else fillSlot o k g next i s
      | none => takeSlot o k g next s := if_neg fun declined => declined.elim inside up
  have taken {v : State} (live : newSlot o k g next v = fresh) : (∀ j, chooseSlot o v = some j →
      takeSlot o k g next v = requestRefill j (v.setSlot j fresh)) ∧
      (chooseSlot o v = none → takeSlot o k g next v = v) := by
    refine ⟨fun j choice => ?_, fun none => ?_⟩
    · rw [takeSlot, choice]
      exact congrArg (fun x => requestRefill j (v.setSlot j x)) live
    · rw [takeSlot, none]
  refine ⟨fun i own idle => ?_, fun v before => ?_⟩
  · rw [goes, own]
    exact if_neg (Bool.eq_false_iff.1 idle)
  · rcases before with ⟨none, rfl⟩ | ⟨i, own, busy, rfl⟩
    · rw [goes, none]
      exact taken rfl
    · rw [goes, own]
      dsimp only
      rw [if_pos busy]
      exact taken rfl

end Sys2Proof.Machine
end

section
/-! Barriers that are met, tails that are closed, failed writes that are counted; records and the ALERT (R77, R91, R102,
R154 to R160). -/

namespace Sys2Proof.Machine

/-! ### An entry leaves its queue (R91) -/

/-- A barrier on queue h after the entry b has left queue g. -/
def Barrier.left (g : Segment) (b : Seq) (h : Segment) (x : Barrier) : Barrier := if h = g then x.meet b else x

theorem Barrier.left_spec (g : Segment) (b : Seq) (h : Segment) (x : Barrier) :
    if h = g ∧ x.value = some b then x.left g b h = { value := x.value, met := true } else x.left g b h = x := by
  unfold Barrier.left Barrier.meet
  by_cases same : h = g
  · by_cases named : x.value = some b
    · rw [if_pos ⟨same, named⟩, if_pos same, if_pos named]
    · rw [if_neg fun k => named k.2, if_pos same, if_neg named]
  · rw [if_neg fun k => same k.1, if_neg same]

theorem DttEntry.meet_eq_left (g : Segment) (b : Seq) (e : DttEntry) :
    e.meet g b = { e with barrier := e.barrier.left g b e.segment } := by
  unfold DttEntry.meet Barrier.left
  split <;> rfl

theorem StreamSlot.meet_eq_left (g : Segment) (b : Seq) (x : StreamSlot) : x.meet g b =
    { x with refill := x.refill.map fun r => { r with barrier := r.barrier.left g b x.segment } } := by
  unfold StreamSlot.meet Barrier.left
  split
  · rfl
  · exact congrArg (fun r => { x with refill := r }) (congrFun Option.map_id _).symm

theorem BarrierPair.meet_eq_left (g : Segment) (b : Seq) (r : BarrierPair) :
    r.meet g b = { a := r.a.left g b .a, b := r.b.left g b .b } := by
  cases g <;> rfl

/-- A record after the entry has left: there is one as before, with its two barriers. -/
theorem record_left (g : Segment) (b : Seq) (o : Option BarrierPair) :
    (o.map (BarrierPair.meet g b)).isSome = o.isSome ∧
      ∀ x ∈ o, ∀ y ∈ o.map (BarrierPair.meet g b), y = { a := x.a.left g b .a, b := x.b.left g b .b } := by
  refine ⟨Option.isSome_map, fun x before y after => ?_⟩
  obtain rfl := Option.mem_def.1 before
  obtain rfl := Option.some.inj (Option.mem_def.1 after)
  exact x.meet_eq_left g b

/-! ### Closing a tail (R77) -/

theorem PostedQueue.closeTail_of_tail {q : PostedQueue} {e : QueueEntry} (tail : q.tail = some e) :
    q.closeTail.entries = q.entries.dropLast ++ [{ e with closeTime := none }] := mapLast_of_getLast? tail

theorem State.present_iff {s : State} {o : Owner} :
    s.present o = true ↔ s.lanes[o.lane].state = .up ∧ s.lanes[o.lane].epoch = o.epoch := by
  simp only [State.present, Bool.and_eq_true, decide_eq_true_eq]

/-- Settles O32: each holder of a barrier by the queue it stands on, the tail, and the count by the owner's presence. -/
theorem leavingClosureAndFailedCount : Obligations.LeavingClosureAndFailedCount := by
  refine ⟨fun g b s => ?_, fun q => ⟨rfl, fun empty => ?_, fun e tail => PostedQueue.closeTail_of_tail tail⟩,
    fun o s => ⟨fun here => if_pos (State.present_iff.1 here), fun gone => if_neg fun here => ?_⟩⟩
  · refine ⟨meetBarriers g b s, rfl, rfl, fun i => ?_, fun i => ?_, fun n => ?_, ?_⟩
    · have entry : (meetBarriers g b s).dtt[i] = s.dtt[i].meet g b := mapAll_table ..
      rw [entry, DttEntry.meet_eq_left]
      exact ⟨rfl, Barrier.left_spec ..⟩
    · have slot : (meetBarriers g b s).slots[i] = s.slots[i].meet g b := mapAll_table ..
      rw [slot, StreamSlot.meet_eq_left]
      refine ⟨rfl, Option.isSome_map, fun x before y after => ?_⟩
      rw [Option.mem_def] at before after
      obtain rfl := Option.some.inj ((Option.map_eq_some_iff.2 ⟨x, before, rfl⟩).symm.trans after)
      exact ⟨rfl, Barrier.left_spec ..⟩
    · have record : (meetBarriers g b s).fences[n] = s.fences[n].map (BarrierPair.meet g b) := mapAll_table ..
      obtain ⟨kept, left⟩ := record_left g b s.fences[n]
      rw [record]
      refine ⟨kept, fun x before y after => ?_⟩
      obtain rfl := left x before y after
      exact ⟨Barrier.left_spec .., Barrier.left_spec ..⟩
    · obtain ⟨kept, left⟩ := record_left g b s.drain
      refine ⟨kept, fun x before y after => ?_⟩
      obtain rfl := left x before y after
      exact ⟨Barrier.left_spec .., Barrier.left_spec ..⟩
  · rw [PostedQueue.closeTail, empty]
    rfl
  · exact Bool.false_ne_true (gone.symm.trans (State.present_iff.2 here))

/-! ### Records and the ALERT (R154 to R160) -/

theorem alertTrigger_places {s : State} {m : LaneId} (manager : s.manager = some m) (on : s.params.alerts = true)
    (quiet : s.log.alertOutstanding = false) : alertTrigger s = { s with
      lanes := s.lanes.set m (s.lanes[m].placeAlert s.log.records.length s.log.lost)
      log := { s.log with alertOutstanding := true } } := by
  have due : (s.params.alerts && !s.log.alertOutstanding) = true := by rw [on, quiet]; rfl
  unfold alertTrigger
  split
  · rename_i none
    exact (nomatch none.symm.trans manager)
  · rename_i k manager'
    obtain rfl := Option.some.inj (manager'.symm.trans manager)
    exact if_pos due

theorem alertTrigger_off {s : State}
    (off : s.manager = none ∨ s.params.alerts = false ∨ s.log.alertOutstanding = true) : alertTrigger s = s := by
  rcases alertTrigger_cases s with same | ⟨m, manager, on, quiet, -⟩
  · exact same
  · rcases off with none | off | outstanding
    · exact (nomatch none.symm.trans manager)
    · exact (Bool.false_ne_true (off.symm.trans on)).elim
    · exact (Bool.false_ne_true (quiet.symm.trans outstanding)).elim

/-- An ALERT changes the transmit buffer of its lane alone. -/
theorem Lane.placeAlert_eq (l : Lane) (records lost : Nat) :
    l.placeAlert records lost = { l with tx := (l.placeAlert records lost).tx } := by
  unfold Lane.placeAlert
  split <;> rfl

theorem Lane.placeAlert_behind {l : Lane} {records lost : Nat} (none : ∀ x ∈ l.tx, x.isAlert = false) :
    (l.placeAlert records lost).tx = l.tx ++ [.alert records lost] := by
  have absent : ¬l.tx.any TxParcel.isAlert = true := by
    rw [List.any_eq_true]
    rintro ⟨x, listed, isAlert⟩
    exact Bool.false_ne_true ((none x listed).symm.trans isAlert)
  rw [Lane.placeAlert, if_neg absent]

theorem Lane.placeAlert_inPlace {l : Lane} {records lost x y : Nat} {before behind : List TxParcel}
    (tx : l.tx = before ++ .alert x y :: behind) (none : ∀ z ∈ before, z.isAlert = false)
    (none' : ∀ z ∈ behind, z.isAlert = false) :
    (l.placeAlert records lost).tx = before ++ .alert records lost :: behind := by
  have same {zs : List TxParcel} (h : ∀ z ∈ zs, z.isAlert = false) :
      zs.map (fun p => if p.isAlert then .alert records lost else p) = zs :=
    (List.map_congr_left fun z listed => if_neg (Bool.eq_false_iff.1 (h z listed))).trans (List.map_id' zs)
  have present : l.tx.any TxParcel.isAlert = true :=
    List.any_eq_true.2 ⟨.alert x y, by rw [tx]; exact List.mem_append_right _ (List.mem_cons_self ..), rfl⟩
  rw [Lane.placeAlert, if_pos present]
  change l.tx.map _ = _
  rw [tx, List.map_append, List.map_cons, same none, same none']
  rfl

/-- Settles O57: the log by its room, the trigger by its three conditions and by whether an ALERT waits. -/
theorem recordsAndAlerts : Obligations.RecordsAndAlerts := by
  refine ⟨fun l now b => ⟨fun room => if_pos room, fun full => if_neg (Nat.not_lt_of_le full)⟩,
    fun bs s => ⟨fun none => by rw [none]; rfl, fun some => ?_⟩, fun s m manager on quiet => ?_, fun s => alertTrigger_off⟩
  · rcases recordEvent_cases bs s with ⟨none, -⟩ | ⟨-, handed⟩
    · exact (some none).elim
    · exact handed
  · refine ⟨(s.lanes[m].placeAlert s.log.records.length s.log.lost).tx, ?_, Lane.placeAlert_behind,
      fun l r x y => Lane.placeAlert_inPlace⟩
    rw [alertTrigger_places manager on quiet]
    exact congrArg (fun lane => { s with
      lanes := s.lanes.set m lane
      log := { s.log with alertOutstanding := true } }) (Lane.placeAlert_eq ..)

end Sys2Proof.Machine
end

section
/-! The intake: the arbiter, the taking and its response, the first refusals; and the commands whose event cannot occur
(R17, R18, R24, R25, R164; notes/assumptions/1.md). -/

namespace Sys2Proof.Machine

/-! ### The arbiter (R17) -/

/-- The lane looked at in place k is the one that k lanes are passed before. -/
theorem lanesPassed_laneOrder (last : LaneId) (k : Fin 15) : lanesPassed last (last + 1 + k) = k.val := by
  unfold lanesPassed
  simp only [Fin.val_add, Fin.val_one]
  omega

theorem laneOrder_lanesPassed (last n : LaneId) : ∃ k : Fin 15, last + 1 + k = n ∧ k.val = lanesPassed last n := by
  refine ⟨⟨lanesPassed last n, Nat.mod_lt _ (by decide)⟩, ?_, rfl⟩
  apply Fin.ext
  simp only [Fin.val_add, Fin.val_one, lanesPassed]
  omega

theorem find?_finRange_eq_some {n : Nat} {p : Fin n → Bool} {i : Fin n} :
    (List.finRange n).find? p = some i ↔ p i = true ∧ ∀ j : Fin n, j < i → p j = false := by
  have first := findFirst_eq_some (p := p) (v := Vector.ofFn id) (i := i)
  simpa only [findFirst, Fin.getElem_fin, Vector.getElem_ofFn, id, Fin.eta] using first

/-- The first eligible lane is the one before which the fewest lanes are passed. -/
theorem firstEligible_eq_some {s : State} {n : LaneId} :
    (laneOrder s.lastGranted).find? (fun n => s.lanes[n].eligible) = some n ↔ s.lanes[n].eligible = true ∧
      ∀ m : LaneId, s.lanes[m].eligible = true → lanesPassed s.lastGranted n ≤ lanesPassed s.lastGranted m := by
  rw [laneOrder, List.find?_map, Option.map_eq_some_iff]
  simp only [find?_finRange_eq_some, Function.comp_apply]
  constructor
  · rintro ⟨k, ⟨eligible, before⟩, rfl⟩
    refine ⟨eligible, fun m other => Nat.le_of_not_lt fun sooner => ?_⟩
    obtain ⟨j, rfl, place⟩ := laneOrder_lanesPassed s.lastGranted m
    rw [lanesPassed_laneOrder, lanesPassed_laneOrder] at sooner
    exact Bool.false_ne_true ((before j sooner).symm.trans other)
  · rintro ⟨eligible, first⟩
    obtain ⟨k, rfl, place⟩ := laneOrder_lanesPassed s.lastGranted n
    refine ⟨k, ⟨eligible, fun j sooner => Bool.eq_false_iff.2 fun other => ?_⟩, rfl⟩
    have passed := first _ other
    rw [lanesPassed_laneOrder, lanesPassed_laneOrder] at passed
    exact Nat.not_lt_of_le passed sooner

/-- The parcel taken is the oldest of the first eligible lane. -/
theorem nextTaking_eq_some {s : State} {t : Taking} : nextTaking s = some t ↔
    (laneOrder s.lastGranted).find? (fun n => s.lanes[n].eligible) = some t.lane ∧
      s.lanes[t.lane].rx.head? = some t.parcel := by
  unfold nextTaking
  cases first : (laneOrder s.lastGranted).find? (fun n => s.lanes[n].eligible) with
  | none => exact ⟨fun h => (nomatch h), fun h => (nomatch h.1)⟩
  | some n =>
    have some : s.lanes[n].rx ≠ [] :=
      (Lane.eligible_iff.1 (List.find?_some (p := fun m : LaneId => s.lanes[m].eligible) first)).2.1
    dsimp only
    split
    · exact (some ‹_›).elim
    · rename_i p rest rx
      constructor
      · intro same
        obtain rfl := Option.some.inj same
        exact ⟨rfl, by rw [rx]; rfl⟩
      · rintro ⟨same, front⟩
        obtain rfl := Option.some.inj same
        rw [rx] at front
        obtain rfl := Option.some.inj front
        rfl

theorem nextTaking_eq_none {s : State} : nextTaking s = none ↔ ∀ n : LaneId, s.lanes[n].eligible = false := by
  constructor
  · intro nothing n
    refine Bool.eq_false_iff.2 fun eligible => ?_
    obtain ⟨k, rfl, -⟩ := laneOrder_lanesPassed s.lastGranted n
    cases first : (laneOrder s.lastGranted).find? (fun n => s.lanes[n].eligible) with
    | none =>
      have absent := List.find?_eq_none.1 first _ (List.mem_map.2 ⟨k, List.mem_finRange k, rfl⟩)
      exact absent eligible
    | some m =>
      have some := (Lane.eligible_iff.1 (firstEligible_eq_some.1 first).1).2.1
      obtain ⟨p, rest, rx⟩ := List.exists_cons_of_ne_nil some
      have taken : nextTaking s = Option.some ⟨m, p⟩ := nextTaking_eq_some.2 ⟨first, by rw [rx]; rfl⟩
      exact (nomatch nothing.symm.trans taken)
  · intro none
    rw [nextTaking, List.find?_eq_none.2 fun n _ => Bool.eq_false_iff.1 (none n)]

/-- Settles O18: eligibility by its definition, the choice by the number of lanes passed. -/
theorem intakeGrantsNextEligibleLane : Obligations.IntakeGrantsNextEligibleLane := by
  refine fun s => ⟨fun n => ?_, fun t => ?_, nextTaking_eq_none⟩
  · rw [Lane.eligible_iff, ← Lane.waiting_length]
  · rw [nextTaking_eq_some, firstEligible_eq_some]
    exact ⟨fun ⟨⟨eligible, first⟩, front⟩ => ⟨eligible, front, first⟩,
      fun ⟨eligible, front, first⟩ => ⟨⟨eligible, first⟩, front⟩⟩

/-! ### The taking and its response (R18) -/

/-- An ALERT placed leaves the responses as they are. -/
theorem Lane.placeAlert_waiting (l : Lane) (records lost : Nat) : (l.placeAlert records lost).waiting = l.waiting := by
  unfold Lane.placeAlert Lane.waiting
  split
  · dsimp only
    generalize l.tx = tx
    induction tx with
    | nil => rfl
    | cons x tx ih =>
      cases x with
      | alert r k => exact ih
      | response r => exact congrArg (TxParcel.response r :: ·) ih
  · rw [List.filter_append]
    exact List.append_nil _

/-- The trigger leaves the parcels received and the responses of every lane. -/
theorem alertTrigger_lane (s : State) (m : LaneId) :
    (alertTrigger s).lanes[m].rx = s.lanes[m].rx ∧ (alertTrigger s).lanes[m].waiting = s.lanes[m].waiting := by
  rcases alertTrigger_cases s with same | ⟨k, -, -, -, placed⟩
  · rw [same]
    exact ⟨rfl, rfl⟩
  · have lane : (alertTrigger s).lanes[m] =
        if k = m then s.lanes[k].placeAlert s.log.records.length s.log.lost else s.lanes[m] := by
      rw [placed, table_set]
    rw [lane]
    split
    · rename_i same
      subst same
      refine ⟨?_, Lane.placeAlert_waiting ..⟩
      rw [Lane.placeAlert_eq]
    · exact ⟨rfl, rfl⟩

theorem respond_lane (n : LaneId) (tag : BitVec 4) (r : Reply) (s : State) (m : LaneId) :
    (respond n tag r s).lanes[m].rx = s.lanes[m].rx ∧ (respond n tag r s).lanes[m].waiting = s.lanes[m].waiting ++
      if n = m then [.response { status := r.status, tag := tag, info := r.info, data := r.data }] else [] := by
  have placed : ∀ t : State, t = (s.modifyLane n fun l =>
        l.pushResponse { status := r.status, tag := tag, info := r.info, data := r.data }) →
      t.lanes[m].rx = s.lanes[m].rx ∧ t.lanes[m].waiting = s.lanes[m].waiting ++
        if n = m then [.response { status := r.status, tag := tag, info := r.info, data := r.data }] else [] := by
    rintro t rfl
    rw [State.modifyLane, table_set]
    split
    · rename_i same
      subst same
      exact ⟨rfl, List.filter_append ..⟩
    · exact ⟨rfl, (List.append_nil _).symm⟩
  obtain ⟨rx, waiting⟩ := placed _ rfl
  unfold respond
  dsimp only
  split
  · obtain ⟨rx', waiting'⟩ := alertTrigger_lane (s.modifyLane n fun l =>
      l.pushResponse { status := r.status, tag := tag, info := r.info, data := r.data }) m
    exact ⟨rx'.trans rx, waiting'.trans waiting⟩
  · exact ⟨rx, waiting⟩

/-- Settles O19: the parcel leaves its buffer, its handling changes no lane's parcels or responses, and the response
goes behind those that wait. -/
theorem eachTakingPlacesOneResponse : Obligations.EachTakingPlacesOneResponse := by
  intro s n p taking
  obtain ⟨handler, takes, works, handles⟩ := requestRow (requestOf p)
  obtain ⟨h, handled⟩ := Option.isSome_iff_exists.1 ((handles n (requestOf p)).2 rfl)
  obtain ⟨up, -, -⟩ := Lane.eligible_iff.1 (nextTaking_some taking).1
  obtain ⟨lanes, granted, -⟩ := (works n p h handled _ ((beginTaking_lane n n s).1.trans up)).lanesKept
  generalize answer : h (beginTaking n s) = out at lanes granted
  have result : takeParcel handler s = respond n (tagOf p) out.2 out.1 := by rw [takeParcel_taken taking handled, answer]
  have lane (m : LaneId) : (takeParcel handler s).lanes[m].rx = (beginTaking n s).lanes[m].rx ∧
      (takeParcel handler s).lanes[m].waiting = (beginTaking n s).lanes[m].waiting ++
        if n = m then [.response ⟨out.2.status, tagOf p, out.2.info, out.2.data⟩] else [] := by
    obtain ⟨rx, waiting⟩ := respond_lane n (tagOf p) out.2 out.1 m
    obtain ⟨-, rx', tx'⟩ := lanes m
    rw [result, rx, waiting, rx', Lane.waiting, tx']
    exact ⟨rfl, rfl⟩
  refine ⟨_, ⟨out.2.status, tagOf p, out.2.info, out.2.data⟩, takes s, rfl, ?_, ?_, ?_, fun m other => ?_⟩
  · rw [result, respond_frame]
    exact granted
  · rw [(lane n).1, beginTaking_lanes_self, table_set_self]
  · rw [(lane n).2, if_pos rfl, beginTaking_lanes_self, table_set_self]
    rfl
  · rw [(lane m).1, (lane m).2, if_neg other.symm, List.append_nil, beginTaking_lanes_self,
      table_set_ne _ _ other.symm]
    exact ⟨rfl, rfl⟩

end Sys2Proof.Machine
end

section
/-! The first refusals of the intake and of the management agent, the gate; and the commands whose event cannot occur
(R24, R25, R164, R172; notes/assumptions/1.md). -/

namespace Sys2Proof.Machine

/-! ### Form and gate (R24, R25) -/

theorem takeParcel_retry_of_closed {handler : LaneId → Request → Option Handler} {h : Handler} {s : State} {n : LaneId}
    {p : Parcel} (taking : nextTaking s = some ⟨n, p⟩) (handled : handler n (requestOf p) = some (gated h))
    (closed : s.gate = .closed) : takeParcel handler s = answered s n (responseTo p .retry 0 []) := by
  have retried : gated h (beginTaking n s) = (beginTaking n s, retry) := by
    have gate : (beginTaking n s).gate = .closed := closed
    simp only [gated, gate]
  rw [takeParcel_taken taking handled, retried]
  exact respond_beginTaking rfl

/-- Settles O21: each row's handler answers before it looks at anything else. -/
theorem formAndGateChecks : Obligations.FormAndGateChecks := by
  refine fun s n p => ⟨fun ⟨taking, form⟩ => ?_, fun closed => ⟨fun a w ⟨taking, form⟩ => ?_, fun a ws ⟨taking, form⟩ => ?_,
    fun ⟨taking, form⟩ => ?_⟩⟩
  · refine congrArg Host.Outcome.next ((takeParcel_taken taking (by rw [form])).trans ?_)
    exact respond_beginTaking rfl
  · exact congrArg Host.Outcome.next (takeParcel_retry_of_closed taking (by rw [form]) closed)
  · exact congrArg Host.Outcome.next (takeParcel_retry_of_closed taking (by rw [form]) closed)
  · exact congrArg Host.Outcome.next (takeParcel_retry_of_closed taking (by rw [form]) closed)

/-! ### Role and argument count (R164), the gate (R172) -/

theorem roleRefusal_eq_none {op : MgmtOp} {n : LaneId} {m : Option LaneId}
    (passes : op = .getStatus ∨ m = some n ∨ op = .claim ∧ m = none) : roleRefusal op n m = none := by
  rcases passes with rfl | rfl | ⟨rfl, rfl⟩
  · rfl
  · cases op with
    | claim => exact if_pos rfl
    | getStatus => rfl
    | _ => exact if_pos rfl
  · rfl

/-- Settles O33: the two checks come first, whatever the operation's effect. -/
theorem roleAndArgumentCountChecks : Obligations.RoleAndArgumentCountChecks := by
  intro s n p op args taking
  obtain ⟨effect, takes, -⟩ := exists_effect op
  refine ⟨fun notClaim notStatus other => ?_, fun passes wrong => ?_⟩
  · exact (refusedFirst_of_takeMgmt (takes s) notClaim notStatus taking).1 other
  · rw [takes, takeMgmt_badArgument taking (roleRefusal_eq_none passes) fun right => (wrong right).elim]

/-- Settles O36: after the two checks each operation sets the gate. -/
theorem openAndCloseSetTheGate : Obligations.OpenAndCloseSetTheGate := by
  refine fun s n p args => ⟨fun taking => ⟨?_, fun manager none => ?_⟩, fun taking => ⟨?_, fun manager none => ?_⟩⟩
  · exact refusedFirst_of_takeMgmt (op := .openGate) rfl (by decide) (by decide) taking
  · refine congrArg Host.Outcome.next (takeMgmt_accepted (v := { s with gate := .opened }) (r := complete) taking
      (roleRefusal_eq_none (.inr (.inl manager))) ?_ rfl rfl rfl rfl)
    rw [none]
    rfl
  · exact refusedFirst_of_takeMgmt (op := .closeGate) rfl (by decide) (by decide) taking
  · refine congrArg Host.Outcome.next (takeMgmt_accepted (v := { s with gate := .closed }) (r := complete) taking
      (roleRefusal_eq_none (.inr (.inl manager))) ?_ rfl rfl rfl rfl)
    rw [none]
    rfl

/-! ### Events that cannot occur (notes/assumptions/1.md) -/

section
variable {s : State} {g : Segment}

theorem intake_of_other_row {c : Instr} (intake : c ∈ intakeCommands)
    (other : ∀ t ∈ nextTaking s, takenBy (requestOf t.parcel) ≠ c) : exec c s = .next s := by
  obtain ⟨r, rfl⟩ := mem_intakeCommands intake
  obtain ⟨handler, takes, -, handles⟩ := requestRow r
  rw [takes, takeParcel_other fun t taking => ?_]
  refine Option.not_isSome_iff_eq_none.1 fun handled => ?_
  exact other t taking ((handles t.lane (requestOf t.parcel)).1 handled)

theorem modifyLane_of_same {n : LaneId} {f : Lane → Lane} (same : f s.lanes[n] = s.lanes[n]) : s.modifyLane n f = s := by
  rw [State.modifyLane, same]
  exact congrArg (fun v => { s with lanes := v }) (Vector.set_getElem_self n.isLt)

theorem grantEvent_of_not_due
    (off : (s.engine g).state ≠ .enabled ∨ (s.engine g).cycle ≠ none ∨ arbiter g s = none) : grantEvent g s = s := by
  rcases grantEvent_cases g s with same | ⟨item, idle, enabled, choice, -⟩
  · exact same
  · rcases off with disabled | busy | nothing
    · exact (disabled enabled).elim
    · exact (busy idle).elim
    · exact (nomatch nothing.symm.trans choice)

theorem claimEvent_of_not_due (h : ∀ c ∈ (s.engine g).cycle, ∀ t, c.phase = .claim t → 1 < (s.timebase - t).toNat) :
    claimEvent g s = s := by
  unfold claimEvent
  split
  · rename_i c cycle
    split
    · rename_i t phase
      exact if_neg (Nat.not_le_of_lt (h c cycle t phase))
    · rfl
  · rfl

theorem wordEvent_of_not_due (h : ∀ c ∈ (s.engine g).cycle, c.atBoundary s = true → c.words ≤ c.passed) (w : Word)
    (q : BitVec 4) : wordEvent g w q s = s := by
  unfold wordEvent
  split
  · rename_i c cycle
    exact if_neg fun due => Nat.not_lt_of_le (h c cycle due.1) due.2
  · rfl

theorem cycleEndEvent_of_not_due (h : ∀ c ∈ (s.engine g).cycle, c.atBoundary s = false) (x : TargetEnding) :
    cycleEndEvent g x s = s := by
  unfold cycleEndEvent
  split
  · rename_i c cycle
    exact if_neg (Bool.eq_false_iff.1 (h c cycle))
  · rfl

/-- What is true of the cycle is true of every cycle of the engine, which has but one. -/
theorem forall_cycle {p : Cycle → Prop} {c : Cycle} (cycle : (s.engine g).cycle = some c) (h : p c) :
    ∀ d ∈ (s.engine g).cycle, p d := by
  intro d other
  obtain rfl := Option.some.inj (cycle.symm.trans other)
  exact h

end

/-- Settles O17: each event's condition fails, and a row that is not the next parcel's has no handler. -/
theorem impossibleEventsChangeNothing : Obligations.ImpossibleEventsChangeNothing := by
  have same {s t : State} (h : t = s) : Host.Outcome.next t = (.next s : Host.Outcome State Fault Refusal) :=
    congrArg Host.Outcome.next h
  intro s
  refine ⟨fun c => intake_of_other_row, fun n up => same (if_neg (ne_of_eq_of_ne up (by decide))), fun n down => ?_,
    fun n nothing => ?_, fun g off => same (grantEvent_of_not_due off), fun g idle => ?_, fun g c t cycle phase => ?_,
    fun g c t cycle phase => ?_, fun i off => same (discardEvent_of_not_due off),
    fun g off => same (closeTimeEvent_of_not_due off), fun i off => same (idleEvent_of_not_due off)⟩
  · have notUp : s.lanes[n].state ≠ .up := ne_of_eq_of_ne down (by decide)
    exact ⟨same (if_neg notUp), fun p => same (if_neg notUp)⟩
  · exact same (modifyLane_of_same (by rw [Lane.sendFront, nothing]))
  · have none {p : Cycle → Prop} : ∀ c ∈ (s.engine g).cycle, p c := by
      rw [idle]
      exact fun c h => (nomatch h)
    exact ⟨same (claimEvent_of_not_due none), fun w q => same (wordEvent_of_not_due none w q),
      fun x => same (cycleEndEvent_of_not_due none x), same (claimLimitEvent_of_not_overdue none),
      same (holdLimitEvent_of_not_overdue none)⟩
  · have inner := Cycle.atBoundary_of_claim phase s
    refine ⟨fun late => same (claimEvent_of_not_due (forall_cycle cycle fun u other => ?_)),
      fun w q => same (wordEvent_of_not_due (forall_cycle cycle fun boundary => ?_) w q),
      fun x => same (cycleEndEvent_of_not_due (forall_cycle cycle inner) x),
      fun early => same (claimLimitEvent_of_not_overdue (forall_cycle cycle ?_)),
      same (holdLimitEvent_of_not_overdue (forall_cycle cycle (Cycle.holdOverdue_of_claim phase s)))⟩
    · obtain rfl := CyclePhase.claim.inj (phase.symm.trans other)
      exact late
    · exact (Bool.false_ne_true (inner.symm.trans boundary)).elim
    · rw [Cycle.claimOverdue_of_claim phase s, decide_eq_false_iff_not]
      exact Nat.not_le_of_lt early
  · have boundary := Cycle.atBoundary_of_data phase s
    refine ⟨same (claimEvent_of_not_due (forall_cycle cycle fun u other => (nomatch phase.symm.trans other))),
      fun off w q => same (wordEvent_of_not_due (forall_cycle cycle fun due => ?_) w q),
      fun late x => same (cycleEndEvent_of_not_due (forall_cycle cycle ?_) x),
      same (claimLimitEvent_of_not_overdue (forall_cycle cycle (Cycle.claimOverdue_of_data phase s))),
      fun held => same (holdLimitEvent_of_not_overdue (forall_cycle cycle ?_))⟩
    · exact off.resolve_right (Nat.not_lt_of_le (of_decide_eq_true (boundary.symm.trans due)))
    · exact boundary.trans (decide_eq_false (Nat.not_le_of_lt late))
    · rw [Cycle.holdOverdue_of_data phase s, decide_eq_false_iff_not]
      exact Nat.not_lt_of_le held

end Sys2Proof.Machine
end

section
/-! The words of a window record, of a parcel that a lane sends and of a log record (R196 to R198). -/

namespace Sys2Proof.Machine

/-! ### Words made of fields (10.8) -/

/-- A word of one field at its foot is the field's value. -/
theorem pack_single {hi v : Nat} (fits : v < 2 ^ (hi + 1)) : pack [⟨hi, 0, v⟩] = BitVec.ofNat 32 v := by
  simp only [pack, packNat, Nat.sub_zero, Nat.pow_zero, Nat.mul_one, Nat.add_zero, Nat.mod_eq_of_lt fits]

theorem toNat_pack_single {hi v : Nat} (inside : hi < 32) (fits : v < 2 ^ (hi + 1)) : (pack [⟨hi, 0, v⟩]).toNat = v := by
  rw [pack_single fits, BitVec.toNat_ofNat]
  exact Nat.mod_eq_of_lt (Nat.lt_of_lt_of_le fits (Nat.pow_le_pow_right (by decide) inside))

/-- A field of a word is the bit vector whose number was packed. -/
theorem pack_bits {fs : List Packed} (hi lo : Nat) (v : BitVec (hi + 1 - lo)) (ok : Layout fs)
    (mem : ⟨hi, lo, v.toNat⟩ ∈ fs) : (pack fs).extractLsb' lo (hi + 1 - lo) = v :=
  BitVec.eq_of_toNat_eq (pack_field (f := ⟨hi, lo, v.toNat⟩) ok mem v.isLt)

/-! ### Window records (R2, R5, R197) -/

/-- The words of a record carry its fields. -/
theorem WindowRecord.carries_toWords (w : WindowRecord) : ∃ w0 w2 w3 : Word, w.toWords = [w0, w.base, w2, w3] ∧
    w.Carries w0 w.base w2 w3 ∧ w3.getLsbD 15 = false ∧ w3.getLsbD 31 = false := by
  have ok0 : Layout [⟨31, 31, bit w.valid⟩, ⟨20, 20, bit w.merge⟩, ⟨17, 16, w.writeMode.code⟩,
      ⟨13, 12, w.readMode.code⟩, ⟨9, 8, segmentCode w.segment⟩, ⟨4, 0, w.sizeCode.toNat⟩] := by
    simp [Layout, Packed.Apart]
  have ok3 : Layout [⟨30, 16, w.writeLanes.toNat⟩, ⟨14, 0, w.readLanes.toNat⟩] := by simp [Layout, Packed.Apart]
  have ok2 : Layout [⟨27, 0, w.targetBase.toNat⟩] := by simp [Layout]
  have writeMode : w.writeMode.code < 2 ^ 2 := by cases w.writeMode <;> decide
  have readMode : w.readMode.code < 2 ^ 2 := by cases w.readMode <;> decide
  have segment : segmentCode w.segment < 2 ^ 2 := by cases w.segment <;> decide
  refine ⟨_, _, _, rfl, ⟨(pack_flag ok0 (by simp)).symm, rfl, (pack_bits 4 0 w.sizeCode ok0 (by simp)).symm,
    (pack_bits 27 0 w.targetBase ok2 (by simp)).symm,
    (pack_field (f := ⟨9, 8, segmentCode w.segment⟩) ok0 (by simp) segment).symm,
    (pack_field (f := ⟨13, 12, w.readMode.code⟩) ok0 (by simp) readMode).symm,
    (pack_field (f := ⟨17, 16, w.writeMode.code⟩) ok0 (by simp) writeMode).symm, (pack_flag ok0 (by simp)).symm,
    (pack_bits 14 0 w.readLanes ok3 (by simp)).symm, (pack_bits 30 16 w.writeLanes ok3 (by simp)).symm⟩, ?_, ?_⟩
  · rw [pack_getLsbD ok3.1 (by decide)]
    simp [Packed.bitAt]
  · rw [pack_getLsbD ok3.1 (by decide)]
    simp [Packed.bitAt]

/-- A valid record is the one that the words which carry it supply. -/
theorem WindowRecord.eq_suppliedRecord {w : WindowRecord} {w0 w1 w2 w3 : Word} (valid : w.valid = true)
    (carries : w.Carries w0 w1 w2 w3) : suppliedRecord w0 w1 w2 w3 w.segment w.readMode w.writeMode = w := by
  obtain ⟨-, base, size, target, -, -, -, merge, read, write⟩ := carries
  rw [suppliedRecord, ← base, ← size, ← target, ← merge, ← read, ← write, ← valid]

/-- Settles O38: the words carry the fields, and the words that carry a valid record are read as it. -/
theorem windowRecordWordsRoundTrip : Obligations.WindowRecordWordsRoundTrip := by
  intro w ok
  obtain ⟨w0, w2, w3, words, carries, low, high⟩ := w.carries_toWords
  refine ⟨w0, w.base, w2, w3, words, ?_, carries⟩
  have ⟨flag, _, _, _, segment, readMode, writeMode, _⟩ := carries
  simp only [WindowRecord.ok, Bool.or_eq_true, Bool.and_eq_true, decide_eq_true_eq] at ok
  rcases ok with cleared | ⟨valid, passes⟩
  · have off : w.valid = false := by rw [cleared]; rfl
    rw [ofWords_of_not_valid (flag.symm.trans off), cleared]
  · have supplied := WindowRecord.eq_suppliedRecord valid carries
    have wordsOk := (suppliedRecord_passes_iff segment readMode writeMode).1
      ⟨⟨by rw [supplied]; exact passes, low⟩, high⟩
    rw [ofWords_of_codes segment readMode writeMode (flag.symm.trans valid), if_pos wordsOk, supplied]

/-! ### Parcels that a lane sends, and log records (R196, R198) -/

theorem Option.getD_map_lt {α : Type} {o : Option α} {f : α → Nat} {b : Nat} (pos : 0 < b) (h : ∀ x, f x < b) :
    (o.map f).getD 0 < b := by
  cases o with
  | none => exact pos
  | some x => exact h x

/-- Settles O58: each field of a word is read back from where it was packed. -/
theorem outgoingWordFormats : Obligations.OutgoingWordFormats := by
  refine ⟨fun r short => ?_, fun records lost few small => ?_, fun r words count => ?_⟩
  · have ok : Layout [⟨31, 28, 8⟩, ⟨27, 24, r.tag.toNat⟩, ⟨23, 20, r.status.code⟩, ⟨19, 16, r.status.reasonCode⟩,
        ⟨15, 0, r.info.toNat⟩] := by simp [Layout, Packed.Apart]
    have code : r.status.code < 2 ^ 4 := by cases r.status <;> simp [Status.code]
    have reason : r.status.reasonCode < 2 ^ 4 := by
      cases r.status with
      | refused x => cases x <;> decide
      | failed x => cases x <;> decide
      | _ => decide
    have length : r.data.length < 2 ^ 5 := by omega
    exact ⟨_, _, rfl, pack_bits 31 28 8 ok (by simp), pack_bits 27 24 r.tag ok (by simp),
      pack_field (f := ⟨23, 20, r.status.code⟩) ok (by simp) code,
      pack_field (f := ⟨19, 16, r.status.reasonCode⟩) ok (by simp) reason, pack_bits 15 0 r.info ok (by simp),
      toNat_pack_single (by decide) length⟩
  · have ok : Layout [⟨31, 28, 9⟩, ⟨15, 0, records⟩] := by simp [Layout, Packed.Apart]
    have reserved : (pack [⟨31, 28, 9⟩, ⟨15, 0, records⟩]).extractLsb' 16 12 = 0 := by
      refine BitVec.eq_of_getLsbD_eq fun i hi => ?_
      have beyond : ¬28 ≤ 16 + i := by omega
      have behind : ¬16 + i ≤ 15 := by omega
      rw [BitVec.getLsbD_extractLsb', pack_getLsbD ok.1 (by omega)]
      simp [Packed.bitAt, beyond, behind]
    refine ⟨_, ?_, pack_bits 31 28 9 ok (by simp), reserved,
      pack_field (f := ⟨15, 0, records⟩) ok (by simp) (show records < 2 ^ 16 by omega)⟩
    rw [← pack_single (hi := 15) (show lost < 2 ^ 16 by omega)]
    rfl
  · have lane : (r.body.lane.map Fin.val).getD 0 < 2 ^ 4 :=
      Option.getD_map_lt (by decide) fun n => Nat.lt_of_lt_of_le n.isLt (by decide)
    have segment : (r.body.segment.map segmentCode).getD 0 < 2 ^ 1 :=
      Option.getD_map_lt (by decide) fun g => by cases g <;> decide
    have entry : (r.body.entryKind.map EntryKind.code).getD 0 < 2 ^ 1 :=
      Option.getD_map_lt (by decide) fun k => by cases k <;> decide
    have kind : r.body.kind.code < 2 ^ 4 := by cases r.body.kind <;> decide
    have cause : (r.body.cause.map Cause.code).getD 0 < 2 ^ 4 := Option.getD_map_lt (by decide) fun c => by
      cases c with
      | failed f => cases f <;> decide
      | _ => decide
    have address : (r.body.segAddr.map BitVec.toNat).getD 0 < 2 ^ 28 :=
      Option.getD_map_lt (by decide) fun a => a.isLt
    have done : r.body.words.getD 0 < 2 ^ 5 := by
      cases given : r.body.words with
      | none => decide
      | some k => exact Nat.lt_of_le_of_lt (words k given) (by decide)
    have many : r.body.count.getD 0 < 2 ^ 8 := by
      cases given : r.body.count with
      | none => decide
      | some k => exact Nat.lt_of_le_of_lt (count k given) (by decide)
    have ok0 : Layout [⟨31, 16, r.seq.toNat⟩, ⟨15, 12, r.body.kind.code⟩, ⟨11, 8, (r.body.lane.map Fin.val).getD 0⟩,
        ⟨7, 7, (r.body.segment.map segmentCode).getD 0⟩, ⟨6, 6, (r.body.entryKind.map EntryKind.code).getD 0⟩,
        ⟨3, 0, (r.body.cause.map Cause.code).getD 0⟩] := by simp [Layout, Packed.Apart]
    have ok3 : Layout [⟨20, 16, r.body.words.getD 0⟩, ⟨7, 0, r.body.count.getD 0⟩] := by simp [Layout, Packed.Apart]
    exact ⟨_, _, _, rfl, pack_bits 31 16 r.seq ok0 (by simp),
      pack_field (f := ⟨15, 12, r.body.kind.code⟩) ok0 (by simp) kind,
      pack_field (f := ⟨11, 8, (r.body.lane.map Fin.val).getD 0⟩) ok0 (by simp) lane,
      pack_field (f := ⟨7, 7, (r.body.segment.map segmentCode).getD 0⟩) ok0 (by simp) segment,
      pack_field (f := ⟨6, 6, (r.body.entryKind.map EntryKind.code).getD 0⟩) ok0 (by simp) entry,
      pack_field (f := ⟨3, 0, (r.body.cause.map Cause.code).getD 0⟩) ok0 (by simp) cause,
      toNat_pack_single (by decide) address, pack_field (f := ⟨20, 16, r.body.words.getD 0⟩) ok3 (by simp) done,
      pack_field (f := ⟨7, 0, r.body.count.getD 0⟩) ok3 (by simp) many⟩

end Sys2Proof.Machine
end

section
/-! The form of a request and the fields it carries (R24, R195). -/

namespace Sys2Proof.Machine

/-! ### Fields of the header -/

theorem maskField_eq (w : Word) (j : Nat) : BitVec.ofNat 4 (field w (4 * j + 3) (4 * j)) = w.extractLsb' (4 * j) 4 := by
  have width : 4 * j + 3 + 1 - 4 * j = 4 := by omega
  have bits := ofNat_field w (4 * j + 3) (4 * j)
  rwa [width] at bits

/-- The codes 1 to 16 name the operations (R199). -/
theorem MgmtOp.ofCode_eq_none {c : Nat} : MgmtOp.ofCode c = none ↔ c = 0 ∨ 16 < c := by
  by_cases small : c < 17
  · revert c
    decide
  · obtain ⟨k, rfl⟩ := Nat.exists_eq_add_of_le (Nat.le_of_not_lt small)
    rw [Nat.add_comm]
    exact iff_of_true rfl (by omega)

/-! ### The request of a parcel, by its kind -/

section
variable {p : Parcel} {a : Word} {payload : List Word} (rest : p.rest = a :: payload)
include rest

theorem requestOf_read (kind : kindCode p = 1) : requestOf p =
    if spanOk a (countOf p) && payload.isEmpty then .read a (countOf p) else .malformed := by
  simp only [requestOf, rest, kind]

theorem requestOf_write (kind : kindCode p = 2) : requestOf p =
    if spanOk a (countOf p) && payload.length = maskWords (countOf p) + countOf p &&
      (writeWordsOf (countOf p) payload).any (fun w => w.mask ≠ 0) then
      .write a (writeWordsOf (countOf p) payload) else .malformed := by
  simp only [requestOf, rest, kind]

theorem requestOf_fence (kind : kindCode p = 3) :
    requestOf p = if payload.isEmpty then .fence else .malformed := by
  simp only [requestOf, rest, kind]

theorem requestOf_mgmt {op : MgmtOp} (kind : kindCode p = 4) (code : MgmtOp.ofCode (opCodeOf p) = some op) :
    requestOf p = if countOf p ≤ 16 && payload.length = countOf p then .mgmt op payload else .malformed := by
  simp only [requestOf, rest, kind, code]

theorem requestOf_mgmt_none (kind : kindCode p = 4) (code : MgmtOp.ofCode (opCodeOf p) = none) :
    requestOf p = .malformed := by
  simp only [requestOf, rest, kind, code]

theorem requestOf_other (kind : kindCode p ≠ 1 ∧ kindCode p ≠ 2 ∧ kindCode p ≠ 3 ∧ kindCode p ≠ 4) :
    requestOf p = .malformed := by
  obtain ⟨read, write, fence, mgmt⟩ := kind
  simp only [requestOf, rest]

end

/-! ### The words of a WRITE -/

theorem writeWordsOf_getElem? {n i : Nat} (hi : i < n) (payload : List Word) : (writeWordsOf n payload)[i]? = some
    { mask := (payload.getD (i / 8) 0).extractLsb' (4 * (i % 8)) 4, data := payload.getD ((n + 7) / 8 + i) 0 } := by
  rw [writeWordsOf, List.getElem?_map, List.getElem?_range hi, Option.map_some, maskField_eq]
  rfl

/-- No byte is to be written when every word's mask is 0. -/
theorem writeWordsOf_any_mask {n : Nat} {payload : List Word} :
    (writeWordsOf n payload).any (fun w => w.mask ≠ 0) = true ↔
      ¬∀ i < n, (payload.getD (i / 8) 0).extractLsb' (4 * (i % 8)) 4 = 0 := by
  simp only [writeWordsOf, List.any_map, List.any_eq_true, List.mem_range, Function.comp_apply, decide_eq_true_eq,
    maskField_eq, not_forall, exists_prop]

theorem ite_malformed_iff {b : Bool} {r : Request} (other : r ≠ .malformed) :
    (if b then r else .malformed) = .malformed ↔ ¬b = true := by
  cases b with
  | true => exact iff_of_false other (by decide)
  | false => exact iff_of_true rfl (by decide)

theorem of_ite_ne_malformed {b : Bool} {r : Request} (other : (if b then r else .malformed) ≠ .malformed) :
    (if b then r else .malformed) = r := by
  cases b with
  | true => rfl
  | false => exact (other rfl).elim

section
variable {p : Parcel} {a : Word} {payload : List Word} (rest : p.rest = a :: payload)
include rest

theorem malformed_read_iff (kind : kindCode p = 1) : requestOf p = .malformed ↔
    (countOf p = 0 ∨ 16 < countOf p) ∨ a.toNat % 4 ≠ 0 ∨ 64 < a.toNat % 64 + 4 * countOf p ∨ payload ≠ [] := by
  rw [requestOf_read rest kind, ite_malformed_iff (r := .read a (countOf p)) nofun, Bool.and_eq_true, spanOk_iff, List.isEmpty_iff]
  by_cases none : payload = []
  · simp only [none, ne_eq, not_true_eq_false, or_false, and_true]
    omega
  · simp only [none, ne_eq, not_false_eq_true, or_true, and_false]

theorem malformed_write_iff (kind : kindCode p = 2) : requestOf p = .malformed ↔
    (countOf p = 0 ∨ 16 < countOf p) ∨ a.toNat % 4 ≠ 0 ∨ 64 < a.toNat % 64 + 4 * countOf p ∨
      (∀ i < countOf p, (payload.getD (i / 8) 0).extractLsb' (4 * (i % 8)) 4 = 0) ∨
      payload.length ≠ (countOf p + 7) / 8 + countOf p := by
  rw [requestOf_write rest kind, ite_malformed_iff (r := .write a (writeWordsOf (countOf p) payload)) nofun, Bool.and_eq_true, Bool.and_eq_true, spanOk_iff,
    decide_eq_true_eq, writeWordsOf_any_mask, maskWords]
  by_cases none : ∀ i < countOf p, (payload.getD (i / 8) 0).extractLsb' (4 * (i % 8)) 4 = 0
  · exact iff_of_true (fun h => h.2 none) (.inr (.inr (.inr (.inl none))))
  · simp only [none, not_false_eq_true, and_true, false_or]
    omega

theorem malformed_fence_iff (kind : kindCode p = 3) : requestOf p = .malformed ↔ payload ≠ [] := by
  rw [requestOf_fence rest kind, ite_malformed_iff (r := .fence) nofun, List.isEmpty_iff]

theorem malformed_mgmt_iff (kind : kindCode p = 4) : requestOf p = .malformed ↔
    (opCodeOf p = 0 ∨ 16 < opCodeOf p) ∨ 16 < countOf p ∨ payload.length ≠ countOf p := by
  rw [← MgmtOp.ofCode_eq_none]
  cases code : MgmtOp.ofCode (opCodeOf p) with
  | none => exact iff_of_true (requestOf_mgmt_none rest kind code) (.inl rfl)
  | some op =>
    rw [requestOf_mgmt rest kind code, ite_malformed_iff (r := .mgmt op payload) nofun, Bool.and_eq_true, decide_eq_true_eq, decide_eq_true_eq]
    simp only [reduceCtorEq, false_or]
    omega

end

/-- Settles O20: kind by kind, the rules that apply to the kind. -/
theorem requestFormAndFields : Obligations.RequestFormAndFields := by
  refine ⟨fun p => ofNat_field p.head 27 24, fun p a payload rest => ?_, by decide⟩
  have kindEq : kindCode p = (p.head.extractLsb' 28 4).toNat := field_eq_extractLsb' p.head 31 28
  have countEq : countOf p = (p.head.extractLsb' 16 8).toNat := field_eq_extractLsb' p.head 23 16
  have opEq : opCodeOf p = (p.head.extractLsb' 0 8).toNat := field_eq_extractLsb' p.head 7 0
  rw [← kindEq, ← countEq, ← opEq]
  intro kind count op
  have read (h : kind = 1) := requestOf_read rest h
  have write (h : kind = 2) := requestOf_write rest h
  have fence (h : kind = 3) := requestOf_fence rest h
  refine ⟨?_, fun sound => ⟨fun h => ?_, fun h => ?_, fun h => ?_, fun h => ?_⟩⟩
  · by_cases isRead : kind = 1
    · rw [malformed_read_iff rest isRead]
      simp [isRead, count]
    by_cases isWrite : kind = 2
    · rw [malformed_write_iff rest isWrite]
      simp [isWrite, count]
    by_cases isFence : kind = 3
    · rw [malformed_fence_iff rest isFence]
      simp [isFence]
    by_cases isMgmt : kind = 4
    · rw [malformed_mgmt_iff rest isMgmt]
      simp [isMgmt, count, op]
    · exact iff_of_true (requestOf_other rest ⟨isRead, isWrite, isFence, isMgmt⟩)
        (.inl ⟨isRead, isWrite, isFence, isMgmt⟩)
  · rw [read h] at sound ⊢
    exact of_ite_ne_malformed sound
  · rw [write h] at sound ⊢
    exact ⟨_, of_ite_ne_malformed sound, writeWordsOf_length .., fun i hi => writeWordsOf_getElem? hi payload⟩
  · rw [fence h] at sound ⊢
    exact of_ite_ne_malformed sound
  · cases code : MgmtOp.ofCode op with
    | none => exact (sound (requestOf_mgmt_none rest h code)).elim
    | some o =>
      rw [requestOf_mgmt rest h code] at sound ⊢
      exact ⟨o, rfl, of_ite_ne_malformed sound⟩

end Sys2Proof.Machine
end

section
/-! The state that only named commands write: the gate, the banks and the generation, the parameters, the timebase, the
manager, the creation counter, the epochs and the last lane granted. -/

namespace Sys2Proof.Machine

/-! ### The settings -/

/-- The state that only named commands write. -/
structure Settings where
  gate : Gate
  staged : Vector WindowRecord 24
  live : Vector WindowRecord 24
  generation : BitVec 16
  params : Parameters
  timebase : Time
  manager : Option LaneId
  creationCounter : BitVec 32
  epochs : LaneId → Epoch
  lastGranted : LaneId

def State.settings (s : State) : Settings where
  gate := s.gate
  staged := s.staged
  live := s.live
  generation := s.generation
  params := s.params
  timebase := s.timebase
  manager := s.manager
  creationCounter := s.creationCounter
  epochs n := s.lanes[n].epoch
  lastGranted := s.lastGranted

/-- The command c may change the settings x to y: each setting is written by its own commands alone. -/
structure Permits (c : Instr) (x y : Settings) : Prop where
  gate : c ≠ .openGate → c ≠ .closeGate → c ≠ .brokerReset → y.gate = x.gate
  staged : c ≠ .stageWindow → y.staged = x.staged
  banks : c ≠ .commit → y.live = x.live ∧ y.generation = x.generation
  params : c ≠ .setParameter → y.params = x.params
  timebase : c ≠ .timebaseAdvance → y.timebase = x.timebase
  manager : c ≠ .claim → c ≠ .release → (∀ n, c ≠ .departure n) → (∀ n p, c ≠ .parcelDelivery n p) →
    y.manager = x.manager
  creation : c ≠ .read → c ≠ .write → y.creationCounter = x.creationCounter
  epochs : c ≠ .purgeLane → (∀ n, c ≠ .arrival n) → y.epochs = x.epochs
  granted : c ∉ intakeCommands → y.lastGranted = x.lastGranted

section
variable {c : Instr} {x y : Settings}

theorem permits_refl (c : Instr) (x : Settings) : Permits c x x :=
  ⟨fun _ _ _ => rfl, fun _ => rfl, fun _ => ⟨rfl, rfl⟩, fun _ => rfl, fun _ => rfl, fun _ _ _ _ => rfl, fun _ _ => rfl,
    fun _ _ => rfl, fun _ => rfl⟩

theorem permits_of_eq (h : y = x) (c : Instr) : Permits c x y := h ▸ permits_refl c x

theorem permits_gate (own : c = .openGate ∨ c = .closeGate ∨ c = .brokerReset) (g : Gate) :
    Permits c x { x with gate := g } :=
  { permits_refl c x with
    gate := fun opens closes resets => (own.elim opens fun own => own.elim closes resets).elim }

theorem permits_staged (v : Vector WindowRecord 24) : Permits .stageWindow x { x with staged := v } :=
  { permits_refl .stageWindow x with staged := fun other => (other rfl).elim }

theorem permits_banks (v : Vector WindowRecord 24) (g : BitVec 16) :
    Permits .commit x { x with live := v, generation := g } :=
  { permits_refl .commit x with banks := fun other => (other rfl).elim }

theorem permits_params (p : Parameters) : Permits .setParameter x { x with params := p } :=
  { permits_refl .setParameter x with params := fun other => (other rfl).elim }

theorem permits_timebase (t : Time) : Permits .timebaseAdvance x { x with timebase := t } :=
  { permits_refl .timebaseAdvance x with timebase := fun other => (other rfl).elim }

theorem permits_manager (own : c = .claim ∨ c = .release ∨ (∃ n, c = .departure n) ∨ ∃ n p, c = .parcelDelivery n p)
    (m : Option LaneId) : Permits c x { x with manager := m } := by
  refine { permits_refl c x with manager := fun claims releases departs delivers => ?_ }
  rcases own with own | own | ⟨n, own⟩ | ⟨n, p, own⟩
  exacts [(claims own).elim, (releases own).elim, (departs n own).elim, (delivers n p own).elim]

theorem permits_creation (own : c = .read ∨ c = .write) (k : BitVec 32) :
    Permits c x { x with creationCounter := k } :=
  { permits_refl c x with creation := fun reads writes => (own.elim reads writes).elim }

theorem permits_epochs (own : c = .purgeLane ∨ ∃ n, c = .arrival n) (e : LaneId → Epoch) :
    Permits c x { x with epochs := e } :=
  { permits_refl c x with epochs := fun purges arrives => (own.elim purges fun ⟨n, own⟩ => arrives n own).elim }

theorem permits_granted (intake : c ∈ intakeCommands) {n : LaneId} (h : Permits c { x with lastGranted := n } y) :
    Permits c x y :=
  { h with granted := fun other => (other intake).elim }

end

/-! ### What the shared operations leave of the settings -/

section
variable {s : State}

theorem settings_modifyLane {n : LaneId} {f : Lane → Lane} (epoch : (f s.lanes[n]).epoch = s.lanes[n].epoch) :
    (s.modifyLane n f).settings = s.settings := by
  have epochs : (s.modifyLane n f).settings.epochs = s.settings.epochs := by
    funext m
    change (s.lanes.set n (f s.lanes[n]))[m].epoch = s.lanes[m].epoch
    rw [table_set]
    split
    · rename_i same
      subst same
      exact epoch
    · rfl
  exact congrArg (fun e => { s.settings with epochs := e }) epochs

theorem settings_alertTrigger (s : State) : (alertTrigger s).settings = s.settings := by
  rcases alertTrigger_cases s with same | ⟨m, -, -, -, placed⟩
  · rw [same]
  · rw [placed]
    exact settings_modifyLane (f := fun l => l.placeAlert s.log.records.length s.log.lost)
      (by rw [Lane.placeAlert_eq])

theorem settings_recordEvent (bs : List RecordBody) (s : State) : (recordEvent bs s).settings = s.settings := by
  rcases recordEvent_cases bs s with ⟨-, same⟩ | ⟨-, handed⟩
  · rw [same]
  · rw [handed, settings_alertTrigger]
    rfl

theorem settings_respond (n : LaneId) (tag : BitVec 4) (r : Reply) (s : State) :
    (respond n tag r s).settings = s.settings := by
  have placed := settings_modifyLane (s := s) (n := n)
    (f := fun l => l.pushResponse { status := r.status, tag := tag, info := r.info, data := r.data }) rfl
  unfold respond
  dsimp only
  split
  · rw [settings_alertTrigger, placed]
  · exact placed

theorem settings_beginTaking (n : LaneId) (s : State) :
    (beginTaking n s).settings = { s.settings with lastGranted := n } := by
  have taken := settings_modifyLane (s := s) (n := n) (f := fun l => { l with rx := l.rx.tail }) rfl
  exact congrArg (fun x : Settings => { x with lastGranted := n }) taken

theorem settings_serveSlot (i : SlotIndex) (w : Nat) (s : State) : (serveSlot i w s).settings = s.settings := by
  rw [serveSlot_frame]
  rfl

theorem settings_allocateSlot (o : Owner) (k : WindowIndex) (g : Segment) (a : Word) (w : Nat) (s : State) :
    (allocateSlot o k g a w s).settings = s.settings := by
  rw [allocateSlot_frame]
  rfl

theorem settings_discardQueue (g : Segment) (c : Cause) (s : State) :
    (discardQueue g c s).1.settings = s.settings := by
  rw [discardQueue_frame]
  rfl

theorem settings_handRecords (bs : List RecordBody) (s : State) : (handRecords bs s).settings = s.settings := rfl

theorem settings_releaseAll (s : State) : (releaseAll s).settings = { s.settings with gate := .closed } := rfl

theorem settings_repeatOf (o : Owner) (i : EntryIndex) (s : State) : (repeatOf o i s).1.settings = s.settings := by
  unfold repeatOf
  split
  · unfold collect
    dsimp only
    split
    · exact settings_allocateSlot ..
    · rfl
  · rfl

end

/-! ### The handlers of a READ, a WRITE and a FENCE -/

/-- The settings are as they were, but for the creation counter. -/
abbrev SameButCreation (s t : State) : Prop := ∃ k, t.settings = { s.settings with creationCounter := k }

theorem sameButCreation_of_eq {s t : State} (h : t.settings = s.settings) : SameButCreation s t := ⟨_, h⟩

theorem createEntry_settings {o : Owner} {kind : EntryKind} {a : Word} {w : Nat} {ws : List WriteWord}
    {k : WindowIndex} {s t : State} (h : createEntry o kind a w ws k s = some t) : SameButCreation s t := by
  unfold createEntry at h
  split at h
  · contradiction
  · split at h
    · obtain rfl := Option.some.inj h
      exact ⟨_, rfl⟩
    · contradiction

theorem readMatch_settings (n : LaneId) (a : Word) (w : Nat) (s : State) : SameButCreation s (readMatch n a w s).1 := by
  unfold readMatch
  split
  · exact sameButCreation_of_eq (settings_repeatOf ..)
  · unfold readNew
    split
    · exact ⟨_, rfl⟩
    · rename_i k _
      cases created : createEntry (s.currentOwner n) .read a w [] k s with
      | none => exact ⟨_, rfl⟩
      | some t => exact createEntry_settings created

theorem readStream_settings (n : LaneId) (a : Word) (w : Nat) (s : State) :
    SameButCreation s (readStream n a w s).1 := by
  unfold readStream
  split
  · exact readMatch_settings n a w s
  · rename_i i _
    split
    · unfold readServed
      split
      · exact sameButCreation_of_eq (settings_serveSlot ..)
      · exact ⟨_, rfl⟩
    · split
      · exact readMatch_settings n a w (dropSlot i s)
      · exact readMatch_settings n a w s

theorem acceptPosted_settings {o : Owner} {k : WindowIndex} {a : SegAddr} {ws : List WriteWord} {s t : State}
    (h : acceptPosted o k a ws s = some t) : t.settings = s.settings := by
  unfold acceptPosted at h
  dsimp only at h
  split at h
  · obtain rfl := Option.some.inj h
    rfl
  · split at h
    · obtain rfl := Option.some.inj h
      rfl
    · contradiction

theorem writeMatch_settings (n : LaneId) (a : Word) (ws : List WriteWord) (s : State) :
    SameButCreation s (writeMatch n a ws s).1 := by
  unfold writeMatch
  split
  · exact sameButCreation_of_eq (settings_repeatOf ..)
  · unfold writeNew
    split
    · exact ⟨_, rfl⟩
    · rename_i k _
      split
      · cases accepted : acceptPosted (s.currentOwner n) k (s.live[k].translate a) ws s with
        | none => exact ⟨_, rfl⟩
        | some t =>
          have dropped : (dropWindow k t).settings = t.settings := rfl
          exact sameButCreation_of_eq (dropped.trans (acceptPosted_settings accepted))
      · cases created : createEntry (s.currentOwner n) .ackedWrite a ws.length ws k s with
        | none => exact ⟨_, rfl⟩
        | some t => exact createEntry_settings (t := t) created
      · exact ⟨_, rfl⟩

theorem fenceAnswer_settings (n : LaneId) (s : State) : (fenceAnswer n s).1.settings = s.settings := by
  unfold fenceAnswer
  split
  · split <;> rfl
  · dsimp only
    split <;> rfl

/-! ### The taking of a parcel -/

/-- Every handler of a row changes what the row's command may change. -/
abbrev RowPermits (c : Instr) (handler : LaneId → Request → Option Handler) : Prop :=
  ∀ (n : LaneId) (r : Request), ∀ h ∈ handler n r, ∀ s : State, Permits c s.settings (h s).1.settings

theorem takeParcel_permits {c : Instr} {handler : LaneId → Request → Option Handler} (intake : c ∈ intakeCommands)
    (row : RowPermits c handler) (s : State) : Permits c s.settings (takeParcel handler s).settings := by
  rcases takeParcel_cases handler s with same | ⟨t, h, -, handled, result⟩
  · exact permits_of_eq (congrArg State.settings same) c
  · have changed := row t.lane _ h handled (beginTaking t.lane s)
    rw [settings_beginTaking] at changed
    rw [result, settings_respond]
    exact permits_granted intake changed

theorem gated_permits {c : Instr} {h : Handler} (changes : ∀ s : State, Permits c s.settings (h s).1.settings)
    (s : State) : Permits c s.settings (gated h s).1.settings := by
  unfold gated
  split
  · exact permits_refl c _
  · exact changes s

theorem permits_of_sameButCreation {c : Instr} (own : c = .read ∨ c = .write) {s t : State}
    (same : SameButCreation s t) : Permits c s.settings t.settings := by
  obtain ⟨k, changed⟩ := same
  rw [changed]
  exact permits_creation own k

theorem malformedParcel_permits {s t : State} (h : exec .malformedParcel s = .next t) :
    Permits .malformedParcel s.settings t.settings := by
  obtain rfl := Host.Outcome.next.inj h
  refine takeParcel_permits (by decide) (fun n r h hh s => ?_) s
  split at hh
  · obtain rfl := Option.some.inj hh
    exact permits_refl _ _
  · contradiction

theorem read_permits {s t : State} (h : exec .read s = .next t) : Permits .read s.settings t.settings := by
  obtain rfl := Host.Outcome.next.inj h
  refine takeParcel_permits (by decide) (fun n r h hh s => ?_) s
  split at hh
  · obtain rfl := Option.some.inj hh
    exact gated_permits (fun s => permits_of_sameButCreation (.inl rfl) (readStream_settings ..)) s
  · contradiction

theorem write_permits {s t : State} (h : exec .write s = .next t) : Permits .write s.settings t.settings := by
  obtain rfl := Host.Outcome.next.inj h
  refine takeParcel_permits (by decide) (fun n r h hh s => ?_) s
  split at hh
  · obtain rfl := Option.some.inj hh
    exact gated_permits (fun s => permits_of_sameButCreation (.inr rfl) (writeMatch_settings ..)) s
  · contradiction

theorem fence_permits {s t : State} (h : exec .fence s = .next t) : Permits .fence s.settings t.settings := by
  obtain rfl := Host.Outcome.next.inj h
  refine takeParcel_permits (by decide) (fun n r h hh s => ?_) s
  split at hh
  · obtain rfl := Option.some.inj hh
    exact gated_permits (fun s => permits_of_eq (fenceAnswer_settings n s) _) s
  · contradiction

/-! ### The management operations -/

theorem mem_intakeCommands_commandOf (op : MgmtOp) : commandOf op ∈ intakeCommands := by
  cases op
  all_goals decide

/-- The effect changes what the operation's command may change. -/
abbrev EffectPermits (op : MgmtOp) (effect : LaneId → List Word → State → Option (State × Reply)) : Prop :=
  ∀ n args (s : State), ∀ out ∈ effect n args s, Permits (commandOf op) s.settings out.1.settings

/-- An operation changes what its effect changes (R164). -/
theorem takeMgmt_permits {op : MgmtOp} {effect : LaneId → List Word → State → Option (State × Reply)}
    (changes : EffectPermits op effect) (s : State) :
    Permits (commandOf op) s.settings (takeMgmt op effect s).settings := by
  refine takeParcel_permits (mem_intakeCommands_commandOf op) (fun n r h hh s => ?_) s
  split at hh
  · split at hh
    · obtain rfl := Option.some.inj hh
      rename_i args _
      rcases manage_cases op effect n args s with ⟨r, refused, -⟩ | ⟨out, -, -, done, result⟩
      · rw [refused]
        exact permits_refl _ _
      · rw [result]
        exact changes n args s out done
    · contradiction
  · contradiction

theorem claim_permits : EffectPermits .claim claimEffect := by
  intro n args s out h
  obtain rfl := Option.some.inj h
  exact permits_manager (.inl rfl) (some n)

theorem release_permits : EffectPermits .release releaseEffect := by
  intro n args s out h
  obtain rfl := Option.some.inj h
  exact permits_manager (.inr (.inl rfl)) none

theorem open_permits : EffectPermits .openGate openEffect := by
  intro n args s out h
  obtain rfl := Option.some.inj h
  exact permits_gate (.inl rfl) .opened

theorem close_permits : EffectPermits .closeGate closeEffect := by
  intro n args s out h
  obtain rfl := Option.some.inj h
  exact permits_gate (.inr (.inl rfl)) .closed

theorem stageWindow_permits : EffectPermits .stageWindow stageWindowEffect := by
  intro n args s out h
  unfold stageWindowEffect at h
  split at h
  · split at h
    · obtain rfl := Option.some.inj h
      exact permits_staged _
    · contradiction
  · contradiction

theorem readWindow_permits : EffectPermits .readWindow readWindowEffect := by
  intro n args s out h
  unfold readWindowEffect at h
  split at h
  · split at h
    · obtain rfl := Option.some.inj h
      exact permits_refl _ _
    · contradiction
  · contradiction

theorem commit_permits : EffectPermits .commit commitEffect := by
  intro n args s out h
  obtain rfl := Option.some.inj h
  exact permits_banks s.staged (s.generation + 1)

theorem setParameter_permits : EffectPermits .setParameter setParameterEffect := by
  intro n args s out h
  unfold setParameterEffect at h
  split at h
  · split at h
    · obtain rfl := Option.some.inj h
      exact permits_params _
    · contradiction
  · contradiction

theorem getParameter_permits : EffectPermits .getParameter getParameterEffect := by
  intro n args s out h
  unfold getParameterEffect at h
  split at h
  · split at h
    · obtain rfl := Option.some.inj h
      exact permits_refl _ _
    · contradiction
  · contradiction

theorem getStatus_permits : EffectPermits .getStatus getStatusEffect := by
  intro n args s out h
  obtain rfl := Option.some.inj h
  exact permits_refl _ _

theorem logTake_permits : EffectPermits .logTake logTakeEffect := by
  intro n args s out h
  obtain rfl := Option.some.inj h
  exact permits_refl _ s.settings

theorem segmentEnable_permits : EffectPermits .segmentEnable segmentEnableEffect := by
  intro n args s out h
  unfold segmentEnableEffect at h
  split at h
  · obtain rfl := Option.some.inj h
    exact permits_refl _ s.settings
  · contradiction

theorem segmentDisable_permits : EffectPermits .segmentDisable segmentDisableEffect := by
  intro n args s out h
  unfold segmentDisableEffect at h
  split at h
  · obtain rfl := Option.some.inj h
    exact permits_refl _ s.settings
  · contradiction

theorem drain_permits : EffectPermits .drain drainEffect := by
  intro n args s out h
  unfold drainEffect at h
  split at h
  all_goals
    split at h
    all_goals
      obtain rfl := Option.some.inj h
      exact permits_refl _ s.settings

theorem purgeLane_permits : EffectPermits .purgeLane purgeLaneEffect := by
  intro n args s out h
  unfold purgeLaneEffect at h
  split at h
  · split at h
    · split at h
      · contradiction
      · obtain rfl := Option.some.inj h
        exact permits_epochs (.inl rfl) _
    · contradiction
  · contradiction

theorem brokerReset_permits : EffectPermits .brokerReset brokerResetEffect := by
  intro n args s out h
  obtain rfl := Option.some.inj h
  have discarded : (discardBoth s).settings = s.settings :=
    (settings_discardQueue .b .brokerReset _).trans (settings_discardQueue .a .brokerReset s)
  change Permits _ _ (handRecords (resetWork s).2 (resetWork s).1).settings
  rw [settings_handRecords, resetWork_state, settings_releaseAll, discarded]
  exact permits_gate (.inr (.inr rfl)) .closed

theorem commandOf_permits (op : MgmtOp) {s t : State} (h : exec (commandOf op) s = .next t) :
    Permits (commandOf op) s.settings t.settings := by
  have carried {effect : LaneId → List Word → State → Option (State × Reply)}
      (takes : exec (commandOf op) s = .next (takeMgmt op effect s)) (changes : EffectPermits op effect) :
      Permits (commandOf op) s.settings t.settings := by
    obtain rfl := Host.Outcome.next.inj (h.symm.trans takes)
    exact takeMgmt_permits changes s
  cases op with
  | claim => exact carried rfl claim_permits
  | release => exact carried rfl release_permits
  | openGate => exact carried rfl open_permits
  | closeGate => exact carried rfl close_permits
  | stageWindow => exact carried rfl stageWindow_permits
  | readWindow => exact carried rfl readWindow_permits
  | commit => exact carried rfl commit_permits
  | setParameter => exact carried rfl setParameter_permits
  | getParameter => exact carried rfl getParameter_permits
  | getStatus => exact carried rfl getStatus_permits
  | logTake => exact carried rfl logTake_permits
  | segmentEnable => exact carried rfl segmentEnable_permits
  | segmentDisable => exact carried rfl segmentDisable_permits
  | drain => exact carried rfl drain_permits
  | purgeLane => exact carried rfl purgeLane_permits
  | brokerReset => exact carried rfl brokerReset_permits

/-! ### The lanes, the engines and the timers -/

section
variable {s : State}

theorem departLane_permits {c : Instr} {n : LaneId} (own : c = .departure n ∨ ∃ p, c = .parcelDelivery n p) :
    Permits c s.settings (departLane n s).settings := by
  have left : (s.modifyLane n fun l => { l with state := .down, rx := [], tx := [] }).settings = s.settings :=
    settings_modifyLane rfl
  have leaves : Permits c s.settings (leaveLane n s).settings := by
    unfold leaveLane
    dsimp only
    split
    · have ended : (endRole (s.modifyLane n fun l => { l with state := .down, rx := [], tx := [] })).settings =
          { s.settings with manager := none } := congrArg (fun x : Settings => { x with manager := none }) left
      rw [ended]
      exact permits_manager (.inr (.inr (own.imp (fun h => ⟨n, h⟩) fun ⟨p, h⟩ => ⟨n, p, h⟩))) none
    · exact permits_of_eq left c
  have released : (departLane n s).settings = (leaveLane n s).settings := settings_recordEvent ..
  rw [released]
  exact leaves

theorem settings_endCycle (g : Segment) (c : Cycle) (e : Ending) (s : State) :
    (endCycle g c e s).settings = s.settings := by
  unfold endCycle
  dsimp only
  rw [settings_recordEvent]
  have idle (u : State) : (engineIdle g u).settings = u.settings := rfl
  have fault (o : CycleOutcome) (u : State) : (faultTest g c o u).1.settings = u.settings := by
    rw [faultTest_frame]
    rfl
  have owner : (ownerCycleEnd g c.item (c.result e) s).1.settings = s.settings := by
    rw [ownerCycleEnd_frame]
    rfl
  rw [idle, fault]
  exact owner

theorem settings_cycleEndEvent (g : Segment) (x : TargetEnding) (s : State) :
    (cycleEndEvent g x s).settings = s.settings := by
  unfold cycleEndEvent
  split
  · split
    · exact settings_endCycle ..
    · rfl
  · rfl

theorem settings_claimLimitEvent (g : Segment) (s : State) : (claimLimitEvent g s).settings = s.settings := by
  unfold claimLimitEvent
  split
  · split
    · exact settings_endCycle ..
    · rfl
  · rfl

theorem settings_holdLimitEvent (g : Segment) (s : State) : (holdLimitEvent g s).settings = s.settings := by
  unfold holdLimitEvent
  split
  · split
    · exact settings_endCycle ..
    · rfl
  · rfl

theorem settings_discardEvent (i : EntryIndex) (s : State) : (discardEvent i s).settings = s.settings := by
  unfold discardEvent
  split
  · exact settings_recordEvent ..
  · rfl

theorem settings_closeTimeEvent (g : Segment) (s : State) : (closeTimeEvent g s).settings = s.settings := by
  rw [closeTimeEvent_frame]
  rfl

theorem settings_grantEvent (g : Segment) (s : State) : (grantEvent g s).settings = s.settings := by
  rw [grantEvent_frame]
  rfl

theorem settings_claimEvent (g : Segment) (s : State) : (claimEvent g s).settings = s.settings := by
  rw [claimEvent_frame]
  rfl

theorem settings_wordEvent (g : Segment) (w : Word) (q : BitVec 4) (s : State) :
    (wordEvent g w q s).settings = s.settings := by
  rw [wordEvent_frame]
  rfl

theorem settings_idleEvent (i : SlotIndex) (s : State) : (idleEvent i s).settings = s.settings := by
  rw [idleEvent_frame]
  rfl

theorem settings_foldl {α : Type} {event : α → State → State} (kept : ∀ x s, (event x s).settings = s.settings)
    (l : List α) (s : State) : (l.foldl (fun t x => event x t) s).settings = s.settings := by
  induction l generalizing s with
  | nil => rfl
  | cons x l ih => exact (ih (event x s)).trans (kept x s)

theorem settings_advanceTimebase (s : State) :
    (advanceTimebase s).settings = { s.settings with timebase := s.timebase + 1 } := rfl

theorem settings_takeDue (s : State) : (takeDue s).settings = s.settings := by
  unfold takeDue
  dsimp only
  rw [settings_holdLimitEvent, settings_holdLimitEvent, settings_claimLimitEvent, settings_claimLimitEvent,
    settings_foldl settings_idleEvent, settings_foldl settings_discardEvent, settings_closeTimeEvent,
    settings_closeTimeEvent]

end

/-! ### Every command -/

/-- Every command but POWER_ON_RESET changes the settings that are its own. -/
theorem exec_permits {c : Instr} {s t : State} (h : exec c s = .next t) (notReset : c ≠ .powerOnReset) :
    Permits c s.settings t.settings := by
  have event {u : State} (answers : exec c s = .next u) (changes : Permits c s.settings u.settings) :
      Permits c s.settings t.settings := by
    obtain rfl := Host.Outcome.next.inj (h.symm.trans answers)
    exact changes
  have quiet {u : State} (answers : exec c s = .next u) (same : u.settings = s.settings) :
      Permits c s.settings t.settings := event answers (permits_of_eq same c)
  cases c with
  | powerOnReset => exact (notReset rfl).elim
  | timebaseAdvance =>
    refine event (u := advanceTimebase (takeDue s)) rfl ?_
    rw [settings_advanceTimebase, settings_takeDue]
    exact permits_timebase _
  | arrival n =>
    refine event (u := arrivalEvent n s) rfl ?_
    unfold arrivalEvent
    split
    · exact permits_epochs (.inr ⟨n, rfl⟩) _
    · exact permits_refl _ _
  | departure n =>
    refine event (u := departureEvent n s) rfl ?_
    unfold departureEvent
    split
    · exact departLane_permits (.inl rfl)
    · exact permits_refl _ _
  | parcelDelivery n p =>
    refine event (u := deliveryEvent n p s) rfl ?_
    unfold deliveryEvent
    split
    · split
      · exact permits_of_eq (settings_modifyLane rfl) _
      · exact departLane_permits (.inr ⟨p, rfl⟩)
    · exact permits_refl _ _
  | parcelSend n =>
    refine quiet (u := s.modifyLane n Lane.sendFront) rfl (settings_modifyLane ?_)
    unfold Lane.sendFront
    split <;> rfl
  | malformedParcel => exact malformedParcel_permits h
  | read => exact read_permits h
  | write => exact write_permits h
  | fence => exact fence_permits h
  | claim => exact commandOf_permits .claim h
  | release => exact commandOf_permits .release h
  | openGate => exact commandOf_permits .openGate h
  | closeGate => exact commandOf_permits .closeGate h
  | stageWindow => exact commandOf_permits .stageWindow h
  | readWindow => exact commandOf_permits .readWindow h
  | commit => exact commandOf_permits .commit h
  | setParameter => exact commandOf_permits .setParameter h
  | getParameter => exact commandOf_permits .getParameter h
  | getStatus => exact commandOf_permits .getStatus h
  | logTake => exact commandOf_permits .logTake h
  | segmentEnable => exact commandOf_permits .segmentEnable h
  | segmentDisable => exact commandOf_permits .segmentDisable h
  | drain => exact commandOf_permits .drain h
  | purgeLane => exact commandOf_permits .purgeLane h
  | brokerReset => exact commandOf_permits .brokerReset h
  | grant g => exact quiet rfl (settings_grantEvent g s)
  | targetClaim g => exact quiet rfl (settings_claimEvent g s)
  | wordPass g w q => exact quiet rfl (settings_wordEvent g w q s)
  | cycleEnd g x => exact quiet rfl (settings_cycleEndEvent g x s)
  | claimLimitExpiry g => exact quiet rfl (settings_claimLimitEvent g s)
  | holdLimitExpiry g => exact quiet rfl (settings_holdLimitEvent g s)
  | discardExpiry i => exact quiet rfl (settings_discardEvent i s)
  | closeTime g => exact quiet rfl (settings_closeTimeEvent g s)
  | idleExpiry i => exact quiet rfl (settings_idleEvent i s)

/-- Settles O16: what each command may change of the settings. -/
theorem stateChangedOnlyByItsCommands : Obligations.StateChangedOnlyByItsCommands := by
  intro c s t h notReset
  obtain ⟨gate, staged, banks, params, timebase, manager, creation, epochs, granted⟩ := exec_permits h notReset
  exact ⟨gate, staged, banks, params, timebase, manager, creation, fun purges arrives => congrFun (epochs purges arrives),
    granted⟩

end Sys2Proof.Machine
end
